-- ==== Sys2Proof/Word.lean ====
section
/-! DEFINITION. The word types of the machine (spec/00_scope.md R7, spec/10_state.md R20, R41, spec/30_encoding.md R120). -/

namespace Sys2Proof

/-- A register value, an address while it is computed, an instruction word: 32 bits (R7, R20, R100). -/
abbrev Word := BitVec 32

/-- One byte of memory (R41). -/
abbrev Byte := BitVec 8

/-- A register field of an instruction: the register number 0 to 15 (R120). -/
abbrev RegNo := BitVec 4

end Sys2Proof
end

