-- ==== Sys2Proof/Config.lean ====
section
/-! DEFINITION. The platform: the parameters of spec/00_scope.md R5 as plain data, the cases the spec calls
UNPREDICTABLE (spec/93_implementation_defined.md), and the free values, constants without a body. -/

namespace Sys2Proof

/-- `ABORT_MODEL` (spec/60_exceptions.md R435): what a Data Abort leaves in the base register. OPEN in the spec. -/
inductive AbortModel where
  /-- "El registro base no se actualiza ante una excepción por Data abort." -/
  | baseRestored
  /-- "El registro base se actualiza." -/
  | baseUpdated
deriving DecidableEq, Repr

/-- `PC_STORE_OFFSET` (spec/45_load_store_word_byte.md R269): what is added to the pc when r15 is stored. OPEN in the spec. -/
inductive PcStoreOffset where
  | eight
  | twelve
deriving DecidableEq, Repr

/-- `HALFWORD_MISALIGNED` (spec/20_memory.md R67). -/
inductive HalfwordMisaligned where
  /-- An odd halfword address is UNPREDICTABLE (the default). -/
  | refuse
  /-- Bit 0 of the address is ignored. -/
  | ignoreBit0
deriving DecidableEq, Repr

/-- The size of one memory access (spec/20_memory.md R62). -/
inductive Width where
  | byte
  | half
  | word
deriving DecidableEq, Repr

/-- The kind of one memory access (spec/20_memory.md R78). -/
inductive AccessKind where
  | read
  | write
  | fetch
deriving DecidableEq, Repr

/-- A range of addresses for which the memory system aborts some accesses: one piece of the parameter `MemAbort`
(spec/20_memory.md R78), which depends on address, size, kind and privilege only. Log 5. -/
structure AbortRegion where
  first : Nat
  last : Nat
  /-- The sizes that abort there. -/
  widths : List Width
  /-- The kinds that abort there. -/
  kinds : List AccessKind
  /-- A User access (`priv` = false) aborts there. -/
  user : Bool
  /-- A privileged access aborts there. -/
  privileged : Bool
deriving DecidableEq, Repr

/-- A range of addresses the platform declares device space (spec/20_memory.md R73). Log 6. -/
structure DeviceRegion where
  first : Nat
  last : Nat
deriving DecidableEq, Repr

/-- The parameters of spec/00_scope.md R5, fixed for a run (spec/10_state.md R43). They stand in the state as plain data
so that every statement ranges over all of them; no step changes them. Log 4. -/
structure Config where
  /-- `HAS_THUMB`: BX exists and T can become 1. -/
  hasThumb : Bool
  /-- `HAS_LONG_MUL`: the 64-bit multiplies exist. -/
  hasLongMul : Bool
  /-- `ARCH_V5T`: BLX, CLZ and BKPT exist. -/
  archV5T : Bool
  /-- `HIGH_VECTORS`: the vectors stand at 0xFFFF0000. -/
  highVectors : Bool
  abortModel : AbortModel
  pcStoreOffset : PcStoreOffset
  halfwordMisaligned : HalfwordMisaligned
  /-- The numbers of the coprocessors present (`Coprocs`). -/
  coprocs : List (BitVec 4)
  /-- `MemAbort`. -/
  aborts : List AbortRegion
  devices : List DeviceRegion
deriving DecidableEq, Repr

/-- A coprocessor's answer to an instruction offered to it (spec/49_coprocessor_and_undefined.md R351, R357). Log 9. -/
inductive CpReply where
  /-- `Accepts` is false. -/
  | declines
  /-- The coprocessor is busy: the processor waits one step and offers the instruction again. -/
  | busy
  /-- The coprocessor takes the instruction. For MRC `word` is `ToARM`; for STC `word :: rest` are the words `GiveWord`
  0, 1, …; for LDC and STC one more than the length of `rest` is `WordsToTransfer`, which is so at least 1. -/
  | accepts (word : Word) (rest : List Word)
deriving DecidableEq, Repr, Inhabited

/-- What passed between the processor and a coprocessor (spec/49_coprocessor_and_undefined.md R351). Log 9. -/
inductive CpEvent where
  /-- `DataOp(cp, w)`. -/
  | dataOp (cp : BitVec 4) (w : Word)
  /-- `TakeWord(cp, w, k, v)`. -/
  | takeWord (cp : BitVec 4) (w : Word) (k : Nat) (v : Word)
  /-- `GiveWord(cp, w, k) = v`. -/
  | giveWord (cp : BitVec 4) (w : Word) (k : Nat) (v : Word)
  /-- `ToARM(cp, w) = v`. -/
  | toArm (cp : BitVec 4) (w : Word) (v : Word)
  /-- `FromARM(cp, w, v)`. -/
  | fromArm (cp : BitVec 4) (w : Word) (v : Word)
deriving DecidableEq, Repr

/-- The cases the spec calls UNPREDICTABLE, by the number they have in spec/93_implementation_defined.md: the step is
refused (spec/00_scope.md R13, spec/92_eei_decisions.md D14). Log 11. -/
inductive Unpredictable where
  /-- U1: a register access while CPSR[4:0] is no mode (R22). -/
  | illegalMode
  /-- U2: sequential execution past 0xFFFFFFFC (R28). -/
  | pastTop
  /-- U3: MSR that would change T (R34, R338). -/
  | msrChangesT
  /-- U4: a value that is no mode written into CPSR[4:0] (R35). -/
  | writesNonMode
  /-- U5: the SPSR named in User or System mode (R37). -/
  | noSpsr
  /-- U10: a halfword access at an odd address, `HALFWORD_MISALIGNED` = Refuse (R67). -/
  | oddHalfword
  /-- U16: BX or BLX to a target with bits 1:0 = 0b10 (R164, R165). -/
  | branchTarget
  /-- U17: BLX with Rm = r15 (R165). -/
  | blxR15
  /-- U18: r15 with a register-specified shift (R195). -/
  | shiftRegR15
  /-- U19: a data-processing result for r15 that is not word aligned (R212, D11). -/
  | misalignedPcResult
  /-- U21: a banked register named right after an LDM of the User bank (R471). -/
  | bankedAfterUserLoad
  /-- U22: a store that changes the instruction word at pc + 4 or pc + 8 (R472). -/
  | storeIntoPipeline
  /-- U23: the register restrictions of the multiplies (R246). -/
  | multiplyRegisters
  /-- U24: CLZ with r15 (R249). -/
  | clzR15
  /-- U25: the register restrictions of LDR, STR, LDRB, STRB and the T forms (R267). -/
  | singleTransferRegisters
  /-- U26: LDR into r15 from a misaligned address, or (v5T) of a value with bits 1:0 = 0b10 (R268). -/
  | loadPcBits
  /-- U28: the restrictions of the halfword and signed transfers (R291, R296). -/
  | halfwordRegisters
  /-- U29: the restrictions of LDM and STM (R318). -/
  | multipleRegisters
  /-- U30: a should-be-zero or should-be-one field with another value (R133). -/
  | shouldBeField
  /-- U31: BKPT with a condition other than 1110 (R112). -/
  | bkptCondition
  /-- U36: LDM or STM of the User bank in User or System mode, or with write-back (R315, R317). -/
  | userBankForm
  /-- U39: the register restrictions of SWP and SWPB (R330). -/
  | swapRegisters
  /-- U40: MRS with Rd = r15, MSR with Rm = r15 (R333, R335). -/
  | statusR15
  /-- U42: LDC or STC with Rn = r15 and write-back (R353). -/
  | coprocessorBase
deriving DecidableEq, Repr

namespace Config

/-- The default column of spec/00_scope.md R5, with the platform map of spec/20_memory.md R76 for "Target 2114", the board of
the source's run in R277. The two OPEN
parameters get a value here and no statement rests on it. Logs 4, 5, 6. -/
def standard : Config where
  hasThumb := true
  hasLongMul := true
  archV5T := false
  highVectors := false
  abortModel := .baseRestored
  pcStoreOffset := .eight
  halfwordMisaligned := .refuse
  coprocs := []
  aborts := [{ first := 0x80000000, last := 0x80003FFF, widths := [.byte, .half, .word],
               kinds := [.read, .write, .fetch], user := true, privileged := true }]
  devices := [{ first := 0xFFFFF030, last := 0xFFFFF033 }]

/-- The other platform map of R76, "sistema LPC2148": every access in the reserved area that ends at 0x7FCFFFFF aborts, the SDRAM at
0x7FD00000 and all else answers. The spec does not say where the reserved area begins ("accesses at 0x7FCFFFFC and below"), so its first
address is left open as an argument. The map names no device address. DEDUCED, log 5. -/
def lpc2148 (reservedFrom : Nat) : Config :=
  { standard with
    aborts := [{ first := reservedFrom, last := 0x7FCFFFFF, widths := [.byte, .half, .word],
                 kinds := [.read, .write, .fetch], user := true, privileged := true }]
    devices := [] }

/-- FREE VALUE: the `n`-th bit drawn under no law (R13 `draw`; C after a multiply, R245). Log 8. -/
opaque drawBit : Nat → Bool

/-- FREE VALUE: the `n`-th word drawn under no law (R320, R412). Log 8. -/
opaque drawWord : Nat → Word

/-- FREE VALUE: what the byte at address `a` of device space answers to the `n`-th draw (R73). Logs 6, 8. -/
opaque deviceByte : Nat → Nat → Byte

/-- FREE VALUE: what coprocessor `cp` answers to the word `w` when the list of replies has ended (R351). Logs 8, 9. -/
opaque cpReply : Nat → BitVec 4 → Word → CpReply

end Config

end Sys2Proof
end

