-- ==== Sys2Proof/Syntax.lean ====
section
/-! DEFINITION. The instructions: one constructor for each of the 113 rows of spec/opcode_table.json, in the table's order,
with every field the row has, the should-be-zero and should-be-one fields among them (spec/30_encoding.md R133: the decode
does not test them, so an instruction carries them and its meaning refuses another value). -/

namespace Sys2Proof

/-- The condition field but for 1111 (spec/40_execution_and_conditions.md R144). -/
inductive Cond where
  | eq | ne | cs | cc | mi | pl | vs | vc | hi | ls | ge | lt | gt | le | al
deriving DecidableEq, Repr

/-- The shift field of a register operand (spec/30_encoding.md R106). -/
inductive ShiftKind where
  | lsl | lsr | asr | ror
deriving DecidableEq, Repr

/-- The instruction set. Field names: `c` cond, `sf` the S bit, `rot` rotate_imm, `amount` shift_imm, `kind` shift, `p` `u` `w`
the P, U, W bits, `n` the N bit of LDC and STC, `h` the H bit of BLX, `spsr` the R bit of MRS and MSR, `list` register_list,
`fields` field_mask, `cp` cp_num, `op1` `op2` Cop1 and Cop2, `sbz` `sbo` the should-be fields. -/
inductive Instr where
  /-- AND, data processing immediate (R196): match 0x02000000 under mask 0x0FE00000. -/
  | andImm (c : Cond) (sf : Bool) (rn rd : RegNo) (rot : BitVec 4) (imm : BitVec 8)
  /-- AND, data processing register shift by immediate (R196): match 0x00000000 under mask 0x0FE00010. -/
  | andShiftImm (c : Cond) (sf : Bool) (rn rd : RegNo) (amount : BitVec 5) (kind : ShiftKind) (rm : RegNo)
  /-- AND, data processing register shift by register (R196): match 0x00000010 under mask 0x0FE00090. -/
  | andShiftReg (c : Cond) (sf : Bool) (rn rd rs : RegNo) (kind : ShiftKind) (rm : RegNo)
  /-- EOR, data processing immediate (R197): match 0x02200000 under mask 0x0FE00000. -/
  | eorImm (c : Cond) (sf : Bool) (rn rd : RegNo) (rot : BitVec 4) (imm : BitVec 8)
  /-- EOR, data processing register shift by immediate (R197): match 0x00200000 under mask 0x0FE00010. -/
  | eorShiftImm (c : Cond) (sf : Bool) (rn rd : RegNo) (amount : BitVec 5) (kind : ShiftKind) (rm : RegNo)
  /-- EOR, data processing register shift by register (R197): match 0x00200010 under mask 0x0FE00090. -/
  | eorShiftReg (c : Cond) (sf : Bool) (rn rd rs : RegNo) (kind : ShiftKind) (rm : RegNo)
  /-- SUB, data processing immediate (R198): match 0x02400000 under mask 0x0FE00000. -/
  | subImm (c : Cond) (sf : Bool) (rn rd : RegNo) (rot : BitVec 4) (imm : BitVec 8)
  /-- SUB, data processing register shift by immediate (R198): match 0x00400000 under mask 0x0FE00010. -/
  | subShiftImm (c : Cond) (sf : Bool) (rn rd : RegNo) (amount : BitVec 5) (kind : ShiftKind) (rm : RegNo)
  /-- SUB, data processing register shift by register (R198): match 0x00400010 under mask 0x0FE00090. -/
  | subShiftReg (c : Cond) (sf : Bool) (rn rd rs : RegNo) (kind : ShiftKind) (rm : RegNo)
  /-- RSB, data processing immediate (R199): match 0x02600000 under mask 0x0FE00000. -/
  | rsbImm (c : Cond) (sf : Bool) (rn rd : RegNo) (rot : BitVec 4) (imm : BitVec 8)
  /-- RSB, data processing register shift by immediate (R199): match 0x00600000 under mask 0x0FE00010. -/
  | rsbShiftImm (c : Cond) (sf : Bool) (rn rd : RegNo) (amount : BitVec 5) (kind : ShiftKind) (rm : RegNo)
  /-- RSB, data processing register shift by register (R199): match 0x00600010 under mask 0x0FE00090. -/
  | rsbShiftReg (c : Cond) (sf : Bool) (rn rd rs : RegNo) (kind : ShiftKind) (rm : RegNo)
  /-- ADD, data processing immediate (R200): match 0x02800000 under mask 0x0FE00000. -/
  | addImm (c : Cond) (sf : Bool) (rn rd : RegNo) (rot : BitVec 4) (imm : BitVec 8)
  /-- ADD, data processing register shift by immediate (R200): match 0x00800000 under mask 0x0FE00010. -/
  | addShiftImm (c : Cond) (sf : Bool) (rn rd : RegNo) (amount : BitVec 5) (kind : ShiftKind) (rm : RegNo)
  /-- ADD, data processing register shift by register (R200): match 0x00800010 under mask 0x0FE00090. -/
  | addShiftReg (c : Cond) (sf : Bool) (rn rd rs : RegNo) (kind : ShiftKind) (rm : RegNo)
  /-- ADC, data processing immediate (R201): match 0x02A00000 under mask 0x0FE00000. -/
  | adcImm (c : Cond) (sf : Bool) (rn rd : RegNo) (rot : BitVec 4) (imm : BitVec 8)
  /-- ADC, data processing register shift by immediate (R201): match 0x00A00000 under mask 0x0FE00010. -/
  | adcShiftImm (c : Cond) (sf : Bool) (rn rd : RegNo) (amount : BitVec 5) (kind : ShiftKind) (rm : RegNo)
  /-- ADC, data processing register shift by register (R201): match 0x00A00010 under mask 0x0FE00090. -/
  | adcShiftReg (c : Cond) (sf : Bool) (rn rd rs : RegNo) (kind : ShiftKind) (rm : RegNo)
  /-- SBC, data processing immediate (R202): match 0x02C00000 under mask 0x0FE00000. -/
  | sbcImm (c : Cond) (sf : Bool) (rn rd : RegNo) (rot : BitVec 4) (imm : BitVec 8)
  /-- SBC, data processing register shift by immediate (R202): match 0x00C00000 under mask 0x0FE00010. -/
  | sbcShiftImm (c : Cond) (sf : Bool) (rn rd : RegNo) (amount : BitVec 5) (kind : ShiftKind) (rm : RegNo)
  /-- SBC, data processing register shift by register (R202): match 0x00C00010 under mask 0x0FE00090. -/
  | sbcShiftReg (c : Cond) (sf : Bool) (rn rd rs : RegNo) (kind : ShiftKind) (rm : RegNo)
  /-- RSC, data processing immediate (R203): match 0x02E00000 under mask 0x0FE00000. -/
  | rscImm (c : Cond) (sf : Bool) (rn rd : RegNo) (rot : BitVec 4) (imm : BitVec 8)
  /-- RSC, data processing register shift by immediate (R203): match 0x00E00000 under mask 0x0FE00010. -/
  | rscShiftImm (c : Cond) (sf : Bool) (rn rd : RegNo) (amount : BitVec 5) (kind : ShiftKind) (rm : RegNo)
  /-- RSC, data processing register shift by register (R203): match 0x00E00010 under mask 0x0FE00090. -/
  | rscShiftReg (c : Cond) (sf : Bool) (rn rd rs : RegNo) (kind : ShiftKind) (rm : RegNo)
  /-- TST, data processing immediate (R208): match 0x03100000 under mask 0x0FF00000. -/
  | tstImm (c : Cond) (rn : RegNo) (sbz rot : BitVec 4) (imm : BitVec 8)
  /-- TST, data processing register shift by immediate (R208): match 0x01100000 under mask 0x0FF00010. -/
  | tstShiftImm (c : Cond) (rn : RegNo) (sbz : BitVec 4) (amount : BitVec 5) (kind : ShiftKind) (rm : RegNo)
  /-- TST, data processing register shift by register (R208): match 0x01100010 under mask 0x0FF00090. -/
  | tstShiftReg (c : Cond) (rn : RegNo) (sbz : BitVec 4) (rs : RegNo) (kind : ShiftKind) (rm : RegNo)
  /-- TEQ, data processing immediate (R209): match 0x03300000 under mask 0x0FF00000. -/
  | teqImm (c : Cond) (rn : RegNo) (sbz rot : BitVec 4) (imm : BitVec 8)
  /-- TEQ, data processing register shift by immediate (R209): match 0x01300000 under mask 0x0FF00010. -/
  | teqShiftImm (c : Cond) (rn : RegNo) (sbz : BitVec 4) (amount : BitVec 5) (kind : ShiftKind) (rm : RegNo)
  /-- TEQ, data processing register shift by register (R209): match 0x01300010 under mask 0x0FF00090. -/
  | teqShiftReg (c : Cond) (rn : RegNo) (sbz : BitVec 4) (rs : RegNo) (kind : ShiftKind) (rm : RegNo)
  /-- CMP, data processing immediate (R210): match 0x03500000 under mask 0x0FF00000. -/
  | cmpImm (c : Cond) (rn : RegNo) (sbz rot : BitVec 4) (imm : BitVec 8)
  /-- CMP, data processing register shift by immediate (R210): match 0x01500000 under mask 0x0FF00010. -/
  | cmpShiftImm (c : Cond) (rn : RegNo) (sbz : BitVec 4) (amount : BitVec 5) (kind : ShiftKind) (rm : RegNo)
  /-- CMP, data processing register shift by register (R210): match 0x01500010 under mask 0x0FF00090. -/
  | cmpShiftReg (c : Cond) (rn : RegNo) (sbz : BitVec 4) (rs : RegNo) (kind : ShiftKind) (rm : RegNo)
  /-- CMN, data processing immediate (R211): match 0x03700000 under mask 0x0FF00000. -/
  | cmnImm (c : Cond) (rn : RegNo) (sbz rot : BitVec 4) (imm : BitVec 8)
  /-- CMN, data processing register shift by immediate (R211): match 0x01700000 under mask 0x0FF00010. -/
  | cmnShiftImm (c : Cond) (rn : RegNo) (sbz : BitVec 4) (amount : BitVec 5) (kind : ShiftKind) (rm : RegNo)
  /-- CMN, data processing register shift by register (R211): match 0x01700010 under mask 0x0FF00090. -/
  | cmnShiftReg (c : Cond) (rn : RegNo) (sbz : BitVec 4) (rs : RegNo) (kind : ShiftKind) (rm : RegNo)
  /-- ORR, data processing immediate (R204): match 0x03800000 under mask 0x0FE00000. -/
  | orrImm (c : Cond) (sf : Bool) (rn rd : RegNo) (rot : BitVec 4) (imm : BitVec 8)
  /-- ORR, data processing register shift by immediate (R204): match 0x01800000 under mask 0x0FE00010. -/
  | orrShiftImm (c : Cond) (sf : Bool) (rn rd : RegNo) (amount : BitVec 5) (kind : ShiftKind) (rm : RegNo)
  /-- ORR, data processing register shift by register (R204): match 0x01800010 under mask 0x0FE00090. -/
  | orrShiftReg (c : Cond) (sf : Bool) (rn rd rs : RegNo) (kind : ShiftKind) (rm : RegNo)
  /-- MOV, data processing immediate (R205): match 0x03A00000 under mask 0x0FE00000. -/
  | movImm (c : Cond) (sf : Bool) (sbz : BitVec 4) (rd : RegNo) (rot : BitVec 4) (imm : BitVec 8)
  /-- MOV, data processing register shift by immediate (R205): match 0x01A00000 under mask 0x0FE00010. -/
  | movShiftImm (c : Cond) (sf : Bool) (sbz : BitVec 4) (rd : RegNo) (amount : BitVec 5) (kind : ShiftKind) (rm : RegNo)
  /-- MOV, data processing register shift by register (R205): match 0x01A00010 under mask 0x0FE00090. -/
  | movShiftReg (c : Cond) (sf : Bool) (sbz : BitVec 4) (rd rs : RegNo) (kind : ShiftKind) (rm : RegNo)
  /-- BIC, data processing immediate (R206): match 0x03C00000 under mask 0x0FE00000. -/
  | bicImm (c : Cond) (sf : Bool) (rn rd : RegNo) (rot : BitVec 4) (imm : BitVec 8)
  /-- BIC, data processing register shift by immediate (R206): match 0x01C00000 under mask 0x0FE00010. -/
  | bicShiftImm (c : Cond) (sf : Bool) (rn rd : RegNo) (amount : BitVec 5) (kind : ShiftKind) (rm : RegNo)
  /-- BIC, data processing register shift by register (R206): match 0x01C00010 under mask 0x0FE00090. -/
  | bicShiftReg (c : Cond) (sf : Bool) (rn rd rs : RegNo) (kind : ShiftKind) (rm : RegNo)
  /-- MVN, data processing immediate (R207): match 0x03E00000 under mask 0x0FE00000. -/
  | mvnImm (c : Cond) (sf : Bool) (sbz : BitVec 4) (rd : RegNo) (rot : BitVec 4) (imm : BitVec 8)
  /-- MVN, data processing register shift by immediate (R207): match 0x01E00000 under mask 0x0FE00010. -/
  | mvnShiftImm (c : Cond) (sf : Bool) (sbz : BitVec 4) (rd : RegNo) (amount : BitVec 5) (kind : ShiftKind) (rm : RegNo)
  /-- MVN, data processing register shift by register (R207): match 0x01E00010 under mask 0x0FE00090. -/
  | mvnShiftReg (c : Cond) (sf : Bool) (sbz : BitVec 4) (rd rs : RegNo) (kind : ShiftKind) (rm : RegNo)
  /-- MUL, multiply (R241): match 0x00000090 under mask 0x0FE000F0. -/
  | mul (c : Cond) (sf : Bool) (rd : RegNo) (sbz : BitVec 4) (rs rm : RegNo)
  /-- MLA, multiply (R242): match 0x00200090 under mask 0x0FE000F0. -/
  | mla (c : Cond) (sf : Bool) (rd rn rs rm : RegNo)
  /-- UMULL, multiply long (R243): match 0x00800090 under mask 0x0FE000F0. -/
  | umull (c : Cond) (sf : Bool) (rdHi rdLo rs rm : RegNo)
  /-- UMLAL, multiply long (R244): match 0x00A00090 under mask 0x0FE000F0. -/
  | umlal (c : Cond) (sf : Bool) (rdHi rdLo rs rm : RegNo)
  /-- SMULL, multiply long (R247): match 0x00C00090 under mask 0x0FE000F0. -/
  | smull (c : Cond) (sf : Bool) (rdHi rdLo rs rm : RegNo)
  /-- SMLAL, multiply long (R248): match 0x00E00090 under mask 0x0FE000F0. -/
  | smlal (c : Cond) (sf : Bool) (rdHi rdLo rs rm : RegNo)
  /-- CLZ, count leading zeros (R249): match 0x01600010 under mask 0x0FF000F0. -/
  | clz (c : Cond) (sboHi : BitVec 4) (rd : RegNo) (sboLo : BitVec 4) (rm : RegNo)
  /-- SWP, swap (R330): match 0x01000090 under mask 0x0FF000F0. -/
  | swp (c : Cond) (rn rd : RegNo) (sbz : BitVec 4) (rm : RegNo)
  /-- SWPB, swap (R331): match 0x01400090 under mask 0x0FF000F0. -/
  | swpb (c : Cond) (rn rd : RegNo) (sbz : BitVec 4) (rm : RegNo)
  /-- MRS, status register read (R333): match 0x01000000 under mask 0x0FB000F0. -/
  | mrs (c : Cond) (spsr : Bool) (sbo : BitVec 4) (rd : RegNo) (sbzHi sbzLo : BitVec 4)
  /-- MSR, status register write register (R335): match 0x01200000 under mask 0x0FB000F0. -/
  | msrReg (c : Cond) (spsr : Bool) (fields sbo sbz : BitVec 4) (rm : RegNo)
  /-- MSR, status register write immediate (R336): match 0x03200000 under mask 0x0FB00000. -/
  | msrImm (c : Cond) (spsr : Bool) (fields sbo rot : BitVec 4) (imm : BitVec 8)
  /-- BX, branch exchange (R164): match 0x01200010 under mask 0x0FF000F0. -/
  | bx (c : Cond) (sbo : BitVec 12) (rm : RegNo)
  /-- BLX, branch link exchange register (R165): match 0x01200030 under mask 0x0FF000F0. -/
  | blxReg (c : Cond) (sbo : BitVec 12) (rm : RegNo)
  /-- BKPT, breakpoint (R182): match 0x01200070 under mask 0x0FF000F0. -/
  | bkpt (c : Cond) (immH : BitVec 12) (immL : BitVec 4)
  /-- STRH, halfword signed transfer immediate (R293): match 0x004000B0 under mask 0x0E5000F0. -/
  | strhImm (c : Cond) (p u w : Bool) (rn rd : RegNo) (immH immL : BitVec 4)
  /-- STRH, halfword signed transfer register (R293): match 0x000000B0 under mask 0x0E5000F0. -/
  | strhReg (c : Cond) (p u w : Bool) (rn rd : RegNo) (sbz : BitVec 4) (rm : RegNo)
  /-- LDRH, halfword signed transfer immediate (R292): match 0x005000B0 under mask 0x0E5000F0. -/
  | ldrhImm (c : Cond) (p u w : Bool) (rn rd : RegNo) (immH immL : BitVec 4)
  /-- LDRH, halfword signed transfer register (R292): match 0x001000B0 under mask 0x0E5000F0. -/
  | ldrhReg (c : Cond) (p u w : Bool) (rn rd : RegNo) (sbz : BitVec 4) (rm : RegNo)
  /-- LDRSB, halfword signed transfer immediate (R294): match 0x005000D0 under mask 0x0E5000F0. -/
  | ldrsbImm (c : Cond) (p u w : Bool) (rn rd : RegNo) (immH immL : BitVec 4)
  /-- LDRSB, halfword signed transfer register (R294): match 0x001000D0 under mask 0x0E5000F0. -/
  | ldrsbReg (c : Cond) (p u w : Bool) (rn rd : RegNo) (sbz : BitVec 4) (rm : RegNo)
  /-- LDRSH, halfword signed transfer immediate (R295): match 0x005000F0 under mask 0x0E5000F0. -/
  | ldrshImm (c : Cond) (p u w : Bool) (rn rd : RegNo) (immH immL : BitVec 4)
  /-- LDRSH, halfword signed transfer register (R295): match 0x001000F0 under mask 0x0E5000F0. -/
  | ldrshReg (c : Cond) (p u w : Bool) (rn rd : RegNo) (sbz : BitVec 4) (rm : RegNo)
  /-- LDR, single transfer immediate offset or preindexed (R262): match 0x05100000 under mask 0x0F500000. -/
  | ldrImm (c : Cond) (u w : Bool) (rn rd : RegNo) (imm : BitVec 12)
  /-- LDR, single transfer immediate postindexed (R262): match 0x04100000 under mask 0x0F700000. -/
  | ldrImmPost (c : Cond) (u : Bool) (rn rd : RegNo) (imm : BitVec 12)
  /-- LDRT, single transfer immediate postindexed user (R271): match 0x04300000 under mask 0x0F700000. -/
  | ldrtImm (c : Cond) (u : Bool) (rn rd : RegNo) (imm : BitVec 12)
  /-- LDR, single transfer register offset or preindexed (R262): match 0x07100000 under mask 0x0F500010. -/
  | ldrReg (c : Cond) (u w : Bool) (rn rd : RegNo) (amount : BitVec 5) (kind : ShiftKind) (rm : RegNo)
  /-- LDR, single transfer register postindexed (R262): match 0x06100000 under mask 0x0F700010. -/
  | ldrRegPost (c : Cond) (u : Bool) (rn rd : RegNo) (amount : BitVec 5) (kind : ShiftKind) (rm : RegNo)
  /-- LDRT, single transfer register postindexed user (R271): match 0x06300000 under mask 0x0F700010. -/
  | ldrtReg (c : Cond) (u : Bool) (rn rd : RegNo) (amount : BitVec 5) (kind : ShiftKind) (rm : RegNo)
  /-- STR, single transfer immediate offset or preindexed (R263): match 0x05000000 under mask 0x0F500000. -/
  | strImm (c : Cond) (u w : Bool) (rn rd : RegNo) (imm : BitVec 12)
  /-- STR, single transfer immediate postindexed (R263): match 0x04000000 under mask 0x0F700000. -/
  | strImmPost (c : Cond) (u : Bool) (rn rd : RegNo) (imm : BitVec 12)
  /-- STRT, single transfer immediate postindexed user (R272): match 0x04200000 under mask 0x0F700000. -/
  | strtImm (c : Cond) (u : Bool) (rn rd : RegNo) (imm : BitVec 12)
  /-- STR, single transfer register offset or preindexed (R263): match 0x07000000 under mask 0x0F500010. -/
  | strReg (c : Cond) (u w : Bool) (rn rd : RegNo) (amount : BitVec 5) (kind : ShiftKind) (rm : RegNo)
  /-- STR, single transfer register postindexed (R263): match 0x06000000 under mask 0x0F700010. -/
  | strRegPost (c : Cond) (u : Bool) (rn rd : RegNo) (amount : BitVec 5) (kind : ShiftKind) (rm : RegNo)
  /-- STRT, single transfer register postindexed user (R272): match 0x06200000 under mask 0x0F700010. -/
  | strtReg (c : Cond) (u : Bool) (rn rd : RegNo) (amount : BitVec 5) (kind : ShiftKind) (rm : RegNo)
  /-- LDRB, single transfer immediate offset or preindexed (R264): match 0x05500000 under mask 0x0F500000. -/
  | ldrbImm (c : Cond) (u w : Bool) (rn rd : RegNo) (imm : BitVec 12)
  /-- LDRB, single transfer immediate postindexed (R264): match 0x04500000 under mask 0x0F700000. -/
  | ldrbImmPost (c : Cond) (u : Bool) (rn rd : RegNo) (imm : BitVec 12)
  /-- LDRBT, single transfer immediate postindexed user (R273): match 0x04700000 under mask 0x0F700000. -/
  | ldrbtImm (c : Cond) (u : Bool) (rn rd : RegNo) (imm : BitVec 12)
  /-- LDRB, single transfer register offset or preindexed (R264): match 0x07500000 under mask 0x0F500010. -/
  | ldrbReg (c : Cond) (u w : Bool) (rn rd : RegNo) (amount : BitVec 5) (kind : ShiftKind) (rm : RegNo)
  /-- LDRB, single transfer register postindexed (R264): match 0x06500000 under mask 0x0F700010. -/
  | ldrbRegPost (c : Cond) (u : Bool) (rn rd : RegNo) (amount : BitVec 5) (kind : ShiftKind) (rm : RegNo)
  /-- LDRBT, single transfer register postindexed user (R273): match 0x06700000 under mask 0x0F700010. -/
  | ldrbtReg (c : Cond) (u : Bool) (rn rd : RegNo) (amount : BitVec 5) (kind : ShiftKind) (rm : RegNo)
  /-- STRB, single transfer immediate offset or preindexed (R266): match 0x05400000 under mask 0x0F500000. -/
  | strbImm (c : Cond) (u w : Bool) (rn rd : RegNo) (imm : BitVec 12)
  /-- STRB, single transfer immediate postindexed (R266): match 0x04400000 under mask 0x0F700000. -/
  | strbImmPost (c : Cond) (u : Bool) (rn rd : RegNo) (imm : BitVec 12)
  /-- STRBT, single transfer immediate postindexed user (R274): match 0x04600000 under mask 0x0F700000. -/
  | strbtImm (c : Cond) (u : Bool) (rn rd : RegNo) (imm : BitVec 12)
  /-- STRB, single transfer register offset or preindexed (R266): match 0x07400000 under mask 0x0F500010. -/
  | strbReg (c : Cond) (u w : Bool) (rn rd : RegNo) (amount : BitVec 5) (kind : ShiftKind) (rm : RegNo)
  /-- STRB, single transfer register postindexed (R266): match 0x06400000 under mask 0x0F700010. -/
  | strbRegPost (c : Cond) (u : Bool) (rn rd : RegNo) (amount : BitVec 5) (kind : ShiftKind) (rm : RegNo)
  /-- STRBT, single transfer register postindexed user (R274): match 0x06600000 under mask 0x0F700010. -/
  | strbtReg (c : Cond) (u : Bool) (rn rd : RegNo) (amount : BitVec 5) (kind : ShiftKind) (rm : RegNo)
  /-- LDM, load multiple (R312): match 0x08100000 under mask 0x0E500000. -/
  | ldm (c : Cond) (p u w : Bool) (rn : RegNo) (list : BitVec 16)
  /-- LDM, load multiple user registers (R315): match 0x08500000 under mask 0x0E508000. -/
  | ldmUser (c : Cond) (p u w : Bool) (rn : RegNo) (list : BitVec 15)
  /-- LDM, load multiple exception return (R316): match 0x08508000 under mask 0x0E508000. -/
  | ldmReturn (c : Cond) (p u w : Bool) (rn : RegNo) (list : BitVec 15)
  /-- STM, store multiple (R314): match 0x08000000 under mask 0x0E500000. -/
  | stm (c : Cond) (p u w : Bool) (rn : RegNo) (list : BitVec 16)
  /-- STM, store multiple user registers (R317): match 0x08400000 under mask 0x0E500000. -/
  | stmUser (c : Cond) (p u w : Bool) (rn : RegNo) (list : BitVec 16)
  /-- B, branch (R161): match 0x0A000000 under mask 0x0F000000. -/
  | b (c : Cond) (imm : BitVec 24)
  /-- BL, branch (R162): match 0x0B000000 under mask 0x0F000000. -/
  | bl (c : Cond) (imm : BitVec 24)
  /-- BLX, branch link exchange immediate (R166): match 0xFA000000 under mask 0xFE000000. -/
  | blxImm (h : Bool) (imm : BitVec 24)
  /-- LDC, coprocessor transfer offset or preindexed (R353): match 0x0D100000 under mask 0x0F100000. -/
  | ldcOffset (c : Cond) (u n w : Bool) (rn : RegNo) (crd cp : BitVec 4) (imm : BitVec 8)
  /-- LDC, coprocessor transfer postindexed or unindexed up (R353): match 0x0C900000 under mask 0x0F900000. -/
  | ldcPostUp (c : Cond) (n w : Bool) (rn : RegNo) (crd cp : BitVec 4) (imm : BitVec 8)
  /-- LDC, coprocessor transfer postindexed down (R353): match 0x0C300000 under mask 0x0FB00000. -/
  | ldcPostDown (c : Cond) (n : Bool) (rn : RegNo) (crd cp : BitVec 4) (imm : BitVec 8)
  /-- STC, coprocessor transfer offset or preindexed (R354): match 0x0D000000 under mask 0x0F100000. -/
  | stcOffset (c : Cond) (u n w : Bool) (rn : RegNo) (crd cp : BitVec 4) (imm : BitVec 8)
  /-- STC, coprocessor transfer postindexed or unindexed up (R354): match 0x0C800000 under mask 0x0F900000. -/
  | stcPostUp (c : Cond) (n w : Bool) (rn : RegNo) (crd cp : BitVec 4) (imm : BitVec 8)
  /-- STC, coprocessor transfer postindexed down (R354): match 0x0C200000 under mask 0x0FB00000. -/
  | stcPostDown (c : Cond) (n : Bool) (rn : RegNo) (crd cp : BitVec 4) (imm : BitVec 8)
  /-- CDP, coprocessor data operation (R352): match 0x0E000000 under mask 0x0F000010. -/
  | cdp (c : Cond) (op1 crn crd cp : BitVec 4) (op2 : BitVec 3) (crm : BitVec 4)
  /-- MCR, coprocessor register transfer (R358): match 0x0E000010 under mask 0x0F100010. -/
  | mcr (c : Cond) (op1 : BitVec 3) (crn : BitVec 4) (rd : RegNo) (cp : BitVec 4) (op2 : BitVec 3) (crm : BitVec 4)
  /-- MRC, coprocessor register transfer (R355): match 0x0E100010 under mask 0x0F100010. -/
  | mrc (c : Cond) (op1 : BitVec 3) (crn : BitVec 4) (rd : RegNo) (cp : BitVec 4) (op2 : BitVec 3) (crm : BitVec 4)
  /-- SWI, software interrupt (R180): match 0x0F000000 under mask 0x0F000000. -/
  | swi (c : Cond) (imm : BitVec 24)
deriving DecidableEq, Repr

end Sys2Proof
end

