-- ==== Sys2Proof/Decode.lean ====
section
/-! DEFINITION. The decoder of spec/30_encoding.md R102, R103 and the encoder of the same formats (R104 to R127).

A word is taken apart into its eight nibbles `n7` (bits 31:28, the condition) to `n0` (bits 3:0); every field of every format is
a nibble, a run of nibbles or some bits of `n6`, `n5` and `n1`. The decoder is total: a word that selects no row of
spec/opcode_table.json is rejected by the name of its area (R128). It does not look at the parameters: a row whose `requires`
fails is still decoded and its meaning takes the Undefined Instruction trap (R132, log 26). -/

namespace Sys2Proof

/-- Why bytes decode to no instruction: the area of spec/30_encoding.md R128 the word lies in. -/
inductive DecodeError where
  /-- Fewer than four bytes. -/
  | tooShort
  /-- Bits 27:25 = 011 and bit 4 = 1. -/
  | undefinedSpace
  /-- Bits 27:24 = 0000, bits 7:4 = 1001, bits 23:22 = 01. -/
  | arithmeticSpace
  /-- The unallocated words of the control extension space. -/
  | controlSpace
  /-- The unallocated words of the load/store extension space. -/
  | loadStoreSpace
  /-- Bits 27:23 = 11000 and bit 21 = 0. -/
  | coprocessorSpace
  /-- Condition 1111 other than BLX (immediate) (R129). -/
  | unconditionalSpace
deriving DecidableEq, Repr

/-- Nibble `k` of a word: bits 4k+3 down to 4k. -/
def nibble (w : Word) (k : Nat) : BitVec 4 := w.extractLsb' (4 * k) 4

/-- The word of eight nibbles, the most significant first. -/
def pack (n7 n6 n5 n4 n3 n2 n1 n0 : BitVec 4) : Word := n7 ++ n6 ++ n5 ++ n4 ++ n3 ++ n2 ++ n1 ++ n0

/-- A one-bit field. -/
def bit (b : Bool) : BitVec 1 := BitVec.ofBool b

/-- The condition a field holds, none for 1111 (R144). -/
def Cond.ofBits : BitVec 4 → Option Cond
  | 0b0000#4 => some .eq
  | 0b0001#4 => some .ne
  | 0b0010#4 => some .cs
  | 0b0011#4 => some .cc
  | 0b0100#4 => some .mi
  | 0b0101#4 => some .pl
  | 0b0110#4 => some .vs
  | 0b0111#4 => some .vc
  | 0b1000#4 => some .hi
  | 0b1001#4 => some .ls
  | 0b1010#4 => some .ge
  | 0b1011#4 => some .lt
  | 0b1100#4 => some .gt
  | 0b1101#4 => some .le
  | 0b1110#4 => some .al
  | _ => none

/-- The condition field of a condition (R144). -/
def Cond.bits : Cond → BitVec 4
  | .eq => 0b0000
  | .ne => 0b0001
  | .cs => 0b0010
  | .cc => 0b0011
  | .mi => 0b0100
  | .pl => 0b0101
  | .vs => 0b0110
  | .vc => 0b0111
  | .hi => 0b1000
  | .ls => 0b1001
  | .ge => 0b1010
  | .lt => 0b1011
  | .gt => 0b1100
  | .le => 0b1101
  | .al => 0b1110

/-- The shift field (R106). -/
def ShiftKind.ofBits : BitVec 2 → ShiftKind
  | 0b00#2 => .lsl
  | 0b01#2 => .lsr
  | 0b10#2 => .asr
  | _ => .ror

def ShiftKind.bits : ShiftKind → BitVec 2
  | .lsl => 0b00
  | .lsr => 0b01
  | .asr => 0b10
  | .ror => 0b11

/-- Data processing, immediate operand (R104, R105), by the opcode of bits 24:21. -/
def decodeDpImm (c : Cond) (op : BitVec 4) (sf : Bool) (n4 n3 n2 n1 n0 : BitVec 4) : Instr :=
  match op with
  | 0b0000#4 => .andImm c sf n4 n3 n2 (n1 ++ n0)
  | 0b0001#4 => .eorImm c sf n4 n3 n2 (n1 ++ n0)
  | 0b0010#4 => .subImm c sf n4 n3 n2 (n1 ++ n0)
  | 0b0011#4 => .rsbImm c sf n4 n3 n2 (n1 ++ n0)
  | 0b0100#4 => .addImm c sf n4 n3 n2 (n1 ++ n0)
  | 0b0101#4 => .adcImm c sf n4 n3 n2 (n1 ++ n0)
  | 0b0110#4 => .sbcImm c sf n4 n3 n2 (n1 ++ n0)
  | 0b0111#4 => .rscImm c sf n4 n3 n2 (n1 ++ n0)
  | 0b1000#4 => .tstImm c n4 n3 n2 (n1 ++ n0)
  | 0b1001#4 => .teqImm c n4 n3 n2 (n1 ++ n0)
  | 0b1010#4 => .cmpImm c n4 n3 n2 (n1 ++ n0)
  | 0b1011#4 => .cmnImm c n4 n3 n2 (n1 ++ n0)
  | 0b1100#4 => .orrImm c sf n4 n3 n2 (n1 ++ n0)
  | 0b1101#4 => .movImm c sf n4 n3 n2 (n1 ++ n0)
  | 0b1110#4 => .bicImm c sf n4 n3 n2 (n1 ++ n0)
  | _ => .mvnImm c sf n4 n3 n2 (n1 ++ n0)

/-- Data processing, register operand shifted by an immediate (R104, R106). -/
def decodeDpShiftImm (c : Cond) (op : BitVec 4) (sf : Bool) (n4 n3 n2 n1 n0 : BitVec 4) : Instr :=
  match op with
  | 0b0000#4 => .andShiftImm c sf n4 n3 (n2 ++ n1.extractLsb' 3 1) (ShiftKind.ofBits (n1.extractLsb' 1 2)) n0
  | 0b0001#4 => .eorShiftImm c sf n4 n3 (n2 ++ n1.extractLsb' 3 1) (ShiftKind.ofBits (n1.extractLsb' 1 2)) n0
  | 0b0010#4 => .subShiftImm c sf n4 n3 (n2 ++ n1.extractLsb' 3 1) (ShiftKind.ofBits (n1.extractLsb' 1 2)) n0
  | 0b0011#4 => .rsbShiftImm c sf n4 n3 (n2 ++ n1.extractLsb' 3 1) (ShiftKind.ofBits (n1.extractLsb' 1 2)) n0
  | 0b0100#4 => .addShiftImm c sf n4 n3 (n2 ++ n1.extractLsb' 3 1) (ShiftKind.ofBits (n1.extractLsb' 1 2)) n0
  | 0b0101#4 => .adcShiftImm c sf n4 n3 (n2 ++ n1.extractLsb' 3 1) (ShiftKind.ofBits (n1.extractLsb' 1 2)) n0
  | 0b0110#4 => .sbcShiftImm c sf n4 n3 (n2 ++ n1.extractLsb' 3 1) (ShiftKind.ofBits (n1.extractLsb' 1 2)) n0
  | 0b0111#4 => .rscShiftImm c sf n4 n3 (n2 ++ n1.extractLsb' 3 1) (ShiftKind.ofBits (n1.extractLsb' 1 2)) n0
  | 0b1000#4 => .tstShiftImm c n4 n3 (n2 ++ n1.extractLsb' 3 1) (ShiftKind.ofBits (n1.extractLsb' 1 2)) n0
  | 0b1001#4 => .teqShiftImm c n4 n3 (n2 ++ n1.extractLsb' 3 1) (ShiftKind.ofBits (n1.extractLsb' 1 2)) n0
  | 0b1010#4 => .cmpShiftImm c n4 n3 (n2 ++ n1.extractLsb' 3 1) (ShiftKind.ofBits (n1.extractLsb' 1 2)) n0
  | 0b1011#4 => .cmnShiftImm c n4 n3 (n2 ++ n1.extractLsb' 3 1) (ShiftKind.ofBits (n1.extractLsb' 1 2)) n0
  | 0b1100#4 => .orrShiftImm c sf n4 n3 (n2 ++ n1.extractLsb' 3 1) (ShiftKind.ofBits (n1.extractLsb' 1 2)) n0
  | 0b1101#4 => .movShiftImm c sf n4 n3 (n2 ++ n1.extractLsb' 3 1) (ShiftKind.ofBits (n1.extractLsb' 1 2)) n0
  | 0b1110#4 => .bicShiftImm c sf n4 n3 (n2 ++ n1.extractLsb' 3 1) (ShiftKind.ofBits (n1.extractLsb' 1 2)) n0
  | _ => .mvnShiftImm c sf n4 n3 (n2 ++ n1.extractLsb' 3 1) (ShiftKind.ofBits (n1.extractLsb' 1 2)) n0

/-- Data processing, register operand shifted by a register (R104, R106). -/
def decodeDpShiftReg (c : Cond) (op : BitVec 4) (sf : Bool) (n4 n3 n2 n1 n0 : BitVec 4) : Instr :=
  match op with
  | 0b0000#4 => .andShiftReg c sf n4 n3 n2 (ShiftKind.ofBits (n1.extractLsb' 1 2)) n0
  | 0b0001#4 => .eorShiftReg c sf n4 n3 n2 (ShiftKind.ofBits (n1.extractLsb' 1 2)) n0
  | 0b0010#4 => .subShiftReg c sf n4 n3 n2 (ShiftKind.ofBits (n1.extractLsb' 1 2)) n0
  | 0b0011#4 => .rsbShiftReg c sf n4 n3 n2 (ShiftKind.ofBits (n1.extractLsb' 1 2)) n0
  | 0b0100#4 => .addShiftReg c sf n4 n3 n2 (ShiftKind.ofBits (n1.extractLsb' 1 2)) n0
  | 0b0101#4 => .adcShiftReg c sf n4 n3 n2 (ShiftKind.ofBits (n1.extractLsb' 1 2)) n0
  | 0b0110#4 => .sbcShiftReg c sf n4 n3 n2 (ShiftKind.ofBits (n1.extractLsb' 1 2)) n0
  | 0b0111#4 => .rscShiftReg c sf n4 n3 n2 (ShiftKind.ofBits (n1.extractLsb' 1 2)) n0
  | 0b1000#4 => .tstShiftReg c n4 n3 n2 (ShiftKind.ofBits (n1.extractLsb' 1 2)) n0
  | 0b1001#4 => .teqShiftReg c n4 n3 n2 (ShiftKind.ofBits (n1.extractLsb' 1 2)) n0
  | 0b1010#4 => .cmpShiftReg c n4 n3 n2 (ShiftKind.ofBits (n1.extractLsb' 1 2)) n0
  | 0b1011#4 => .cmnShiftReg c n4 n3 n2 (ShiftKind.ofBits (n1.extractLsb' 1 2)) n0
  | 0b1100#4 => .orrShiftReg c sf n4 n3 n2 (ShiftKind.ofBits (n1.extractLsb' 1 2)) n0
  | 0b1101#4 => .movShiftReg c sf n4 n3 n2 (ShiftKind.ofBits (n1.extractLsb' 1 2)) n0
  | 0b1110#4 => .bicShiftReg c sf n4 n3 n2 (ShiftKind.ofBits (n1.extractLsb' 1 2)) n0
  | _ => .mvnShiftReg c sf n4 n3 n2 (ShiftKind.ofBits (n1.extractLsb' 1 2)) n0

/-- Bits 27:25 = 000 with bits 7:4 = 1001: the multiplies and SWP (R103, R107, R108, R119). -/
def decodeMultiplySwap (c : Cond) (n6 n5 n4 n3 n2 n0 : BitVec 4) : Except DecodeError Instr :=
  let sf := n5.getLsbD 0
  if n6.getLsbD 0 then
    match n5 with
    | 0b0000#4 => .ok (.swp c n4 n3 n2 n0)
    | 0b0100#4 => .ok (.swpb c n4 n3 n2 n0)
    | _ => .error .loadStoreSpace
  else
    match n5.extractLsb' 1 3 with
    | 0b000#3 => .ok (.mul c sf n4 n3 n2 n0)
    | 0b001#3 => .ok (.mla c sf n4 n3 n2 n0)
    | 0b100#3 => .ok (.umull c sf n4 n3 n2 n0)
    | 0b101#3 => .ok (.umlal c sf n4 n3 n2 n0)
    | 0b110#3 => .ok (.smull c sf n4 n3 n2 n0)
    | 0b111#3 => .ok (.smlal c sf n4 n3 n2 n0)
    | _ => .error .arithmeticSpace

/-- Bits 27:25 = 000 with bits 7 and 4 set and bits 6:5 not 00: the halfword and signed transfers (R103, R117). -/
def decodeHalfword (c : Cond) (n6 n5 n4 n3 n2 n1 n0 : BitVec 4) : Except DecodeError Instr :=
  let p := n6.getLsbD 0
  let u := n5.getLsbD 3
  let w := n5.getLsbD 1
  match n1.extractLsb' 1 2, n5.getLsbD 0, n5.getLsbD 2 with
  | 0b01#2, false, true => .ok (.strhImm c p u w n4 n3 n2 n0)
  | 0b01#2, false, false => .ok (.strhReg c p u w n4 n3 n2 n0)
  | 0b01#2, true, true => .ok (.ldrhImm c p u w n4 n3 n2 n0)
  | 0b01#2, true, false => .ok (.ldrhReg c p u w n4 n3 n2 n0)
  | 0b10#2, true, true => .ok (.ldrsbImm c p u w n4 n3 n2 n0)
  | 0b10#2, true, false => .ok (.ldrsbReg c p u w n4 n3 n2 n0)
  | 0b11#2, true, true => .ok (.ldrshImm c p u w n4 n3 n2 n0)
  | 0b11#2, true, false => .ok (.ldrshReg c p u w n4 n3 n2 n0)
  | _, _, _ => .error .loadStoreSpace

/-- The control space with a register operand: opcode 10xx with S = 0 (R103, R109 to R112, R121, R122). -/
def decodeControl (c : Cond) (n5 n4 n3 n2 n1 n0 : BitVec 4) : Except DecodeError Instr :=
  match n1, n5.extractLsb' 1 2 with
  | 0b0000#4, 0b00#2 => .ok (.mrs c false n4 n3 n2 n0)
  | 0b0000#4, 0b10#2 => .ok (.mrs c true n4 n3 n2 n0)
  | 0b0000#4, 0b01#2 => .ok (.msrReg c false n4 n3 n2 n0)
  | 0b0000#4, 0b11#2 => .ok (.msrReg c true n4 n3 n2 n0)
  | 0b0001#4, 0b01#2 => .ok (.bx c (n4 ++ n3 ++ n2) n0)
  | 0b0001#4, 0b11#2 => .ok (.clz c n4 n3 n2 n0)
  | 0b0011#4, 0b01#2 => .ok (.blxReg c (n4 ++ n3 ++ n2) n0)
  | 0b0111#4, 0b01#2 => .ok (.bkpt c (n4 ++ n3 ++ n2) n0)
  | _, _ => .error .controlSpace

/-- Whether bits 24:23 are 10 and bit 20 is 0: opcode 10xx with S = 0 (R103). -/
def isControl (n6 n5 : BitVec 4) : Bool := n6.getLsbD 0 && !n5.getLsbD 3 && !n5.getLsbD 0

/-- Bits 27:25 = 000 (R103). -/
def decodeClass000 (c : Cond) (n6 n5 n4 n3 n2 n1 n0 : BitVec 4) : Except DecodeError Instr :=
  let op := n6.extractLsb' 0 1 ++ n5.extractLsb' 1 3
  if n1.getLsbD 3 && n1.getLsbD 0 then
    if n1.extractLsb' 1 2 = 0b00#2 then decodeMultiplySwap c n6 n5 n4 n3 n2 n0
    else decodeHalfword c n6 n5 n4 n3 n2 n1 n0
  else if isControl n6 n5 then decodeControl c n5 n4 n3 n2 n1 n0
  else if n1.getLsbD 0 then .ok (decodeDpShiftReg c op (n5.getLsbD 0) n4 n3 n2 n1 n0)
  else .ok (decodeDpShiftImm c op (n5.getLsbD 0) n4 n3 n2 n1 n0)

/-- Bits 27:25 = 001 (R103). -/
def decodeClass001 (c : Cond) (n6 n5 n4 n3 n2 n1 n0 : BitVec 4) : Except DecodeError Instr :=
  if isControl n6 n5 then
    if n5.getLsbD 1 then .ok (.msrImm c (n5.getLsbD 2) n4 n3 n2 (n1 ++ n0)) else .error .controlSpace
  else .ok (decodeDpImm c (n6.extractLsb' 0 1 ++ n5.extractLsb' 1 3) (n5.getLsbD 0) n4 n3 n2 n1 n0)

/-- Bits 27:25 = 010: immediate offset (R115), by L, B, P, W. -/
def decodeSingleImm (c : Cond) (n6 n5 n4 n3 : BitVec 4) (imm : BitVec 12) : Instr :=
  let u := n5.getLsbD 3
  match n5.getLsbD 0, n5.getLsbD 2, n6.getLsbD 0, n5.getLsbD 1 with
  | true, false, true, w => .ldrImm c u w n4 n3 imm
  | true, false, false, false => .ldrImmPost c u n4 n3 imm
  | true, false, false, true => .ldrtImm c u n4 n3 imm
  | false, false, true, w => .strImm c u w n4 n3 imm
  | false, false, false, false => .strImmPost c u n4 n3 imm
  | false, false, false, true => .strtImm c u n4 n3 imm
  | true, true, true, w => .ldrbImm c u w n4 n3 imm
  | true, true, false, false => .ldrbImmPost c u n4 n3 imm
  | true, true, false, true => .ldrbtImm c u n4 n3 imm
  | false, true, true, w => .strbImm c u w n4 n3 imm
  | false, true, false, false => .strbImmPost c u n4 n3 imm
  | false, true, false, true => .strbtImm c u n4 n3 imm

/-- Bits 27:25 = 011, bit 4 = 0: register offset shifted by an immediate (R115). -/
def decodeSingleReg (c : Cond) (n6 n5 n4 n3 : BitVec 4) (amount : BitVec 5) (kind : ShiftKind) (n0 : BitVec 4) : Instr :=
  let u := n5.getLsbD 3
  match n5.getLsbD 0, n5.getLsbD 2, n6.getLsbD 0, n5.getLsbD 1 with
  | true, false, true, w => .ldrReg c u w n4 n3 amount kind n0
  | true, false, false, false => .ldrRegPost c u n4 n3 amount kind n0
  | true, false, false, true => .ldrtReg c u n4 n3 amount kind n0
  | false, false, true, w => .strReg c u w n4 n3 amount kind n0
  | false, false, false, false => .strRegPost c u n4 n3 amount kind n0
  | false, false, false, true => .strtReg c u n4 n3 amount kind n0
  | true, true, true, w => .ldrbReg c u w n4 n3 amount kind n0
  | true, true, false, false => .ldrbRegPost c u n4 n3 amount kind n0
  | true, true, false, true => .ldrbtReg c u n4 n3 amount kind n0
  | false, true, true, w => .strbReg c u w n4 n3 amount kind n0
  | false, true, false, false => .strbRegPost c u n4 n3 amount kind n0
  | false, true, false, true => .strbtReg c u n4 n3 amount kind n0

/-- Bits 27:25 = 100: LDM and STM by L, S and bit 15 of the list (R118, R132). -/
def decodeMultiple (c : Cond) (n6 n5 n4 n3 n2 n1 n0 : BitVec 4) : Instr :=
  let p := n6.getLsbD 0
  let u := n5.getLsbD 3
  let w := n5.getLsbD 1
  match n5.getLsbD 0, n5.getLsbD 2, n3.getLsbD 3 with
  | true, false, _ => .ldm c p u w n4 (n3 ++ n2 ++ n1 ++ n0)
  | true, true, false => .ldmUser c p u w n4 (n3.extractLsb' 0 3 ++ n2 ++ n1 ++ n0)
  | true, true, true => .ldmReturn c p u w n4 (n3.extractLsb' 0 3 ++ n2 ++ n1 ++ n0)
  | false, false, _ => .stm c p u w n4 (n3 ++ n2 ++ n1 ++ n0)
  | false, true, _ => .stmUser c p u w n4 (n3 ++ n2 ++ n1 ++ n0)

/-- Bits 27:25 = 110: LDC and STC by L, P, U, W (R126, R132). -/
def decodeCpTransfer (c : Cond) (n6 n5 n4 n3 n2 n1 n0 : BitVec 4) : Except DecodeError Instr :=
  let n := n5.getLsbD 2
  match n5.getLsbD 0, n6.getLsbD 0, n5.getLsbD 3, n5.getLsbD 1 with
  | true, true, u, w => .ok (.ldcOffset c u n w n4 n3 n2 (n1 ++ n0))
  | true, false, true, w => .ok (.ldcPostUp c n w n4 n3 n2 (n1 ++ n0))
  | true, false, false, true => .ok (.ldcPostDown c n n4 n3 n2 (n1 ++ n0))
  | false, true, u, w => .ok (.stcOffset c u n w n4 n3 n2 (n1 ++ n0))
  | false, false, true, w => .ok (.stcPostUp c n w n4 n3 n2 (n1 ++ n0))
  | false, false, false, true => .ok (.stcPostDown c n n4 n3 n2 (n1 ++ n0))
  | _, false, false, false => .error .coprocessorSpace

/-- Bits 27:24 = 1110: CDP by bit 4, MCR and MRC by bit 20 (R125, R127). -/
def decodeCpRegister (c : Cond) (n5 n4 n3 n2 n1 n0 : BitVec 4) : Instr :=
  match n1.getLsbD 0, n5.getLsbD 0 with
  | false, _ => .cdp c n5 n4 n3 n2 (n1.extractLsb' 1 3) n0
  | true, false => .mcr c (n5.extractLsb' 1 3) n4 n3 n2 (n1.extractLsb' 1 3) n0
  | true, true => .mrc c (n5.extractLsb' 1 3) n4 n3 n2 (n1.extractLsb' 1 3) n0

/-- A word with a condition other than 1111, by its class (R102). -/
def decodeConditional (c : Cond) (n6 n5 n4 n3 n2 n1 n0 : BitVec 4) : Except DecodeError Instr :=
  match n6.extractLsb' 1 3 with
  | 0b000#3 => decodeClass000 c n6 n5 n4 n3 n2 n1 n0
  | 0b001#3 => decodeClass001 c n6 n5 n4 n3 n2 n1 n0
  | 0b010#3 => .ok (decodeSingleImm c n6 n5 n4 n3 (n2 ++ n1 ++ n0))
  | 0b011#3 =>
    if n1.getLsbD 0 then .error .undefinedSpace
    else .ok (decodeSingleReg c n6 n5 n4 n3 (n2 ++ n1.extractLsb' 3 1) (ShiftKind.ofBits (n1.extractLsb' 1 2)) n0)
  | 0b100#3 => .ok (decodeMultiple c n6 n5 n4 n3 n2 n1 n0)
  | 0b101#3 =>
    if n6.getLsbD 0 then .ok (.bl c (n5 ++ n4 ++ n3 ++ n2 ++ n1 ++ n0)) else .ok (.b c (n5 ++ n4 ++ n3 ++ n2 ++ n1 ++ n0))
  | 0b110#3 => decodeCpTransfer c n6 n5 n4 n3 n2 n1 n0
  | _ =>
    if n6.getLsbD 0 then .ok (.swi c (n5 ++ n4 ++ n3 ++ n2 ++ n1 ++ n0))
    else .ok (decodeCpRegister c n5 n4 n3 n2 n1 n0)

/-- The nibbles of a word: condition 1111 first (R129, R132), then the classes. -/
def decodeNibbles (n7 n6 n5 n4 n3 n2 n1 n0 : BitVec 4) : Except DecodeError Instr :=
  match Cond.ofBits n7 with
  | some c => decodeConditional c n6 n5 n4 n3 n2 n1 n0
  | none =>
    if n6.extractLsb' 1 3 = 0b101#3 then .ok (.blxImm (n6.getLsbD 0) (n5 ++ n4 ++ n3 ++ n2 ++ n1 ++ n0))
    else .error .unconditionalSpace

/-- The instruction of a word, or the area it is undefined in. -/
def decode (w : Word) : Except DecodeError Instr :=
  decodeNibbles (nibble w 7) (nibble w 6) (nibble w 5) (nibble w 4) (nibble w 3) (nibble w 2) (nibble w 1) (nibble w 0)

/-- Four bytes as a little-endian word, the byte at the lowest address first (spec/20_memory.md R60, R61). -/
def wordOfBytes (b0 b1 b2 b3 : Byte) : Word := b3 ++ b2 ++ b1 ++ b0

/-- The instruction at the head of a sequence of bytes as memory holds them. -/
def decodeBytes : List Byte → Except DecodeError Instr
  | b0 :: b1 :: b2 :: b3 :: _ => decode (wordOfBytes b0 b1 b2 b3)
  | _ => .error .tooShort

/-- Byte `k` of a word as memory holds it (R60). -/
def byteOf (w : Word) (k : Nat) : Byte := w.extractLsb' (8 * k) 8

/-- The instruction the decoder reads from the bits `w` of a table row, laid out in bytes as memory holds them. -/
def decodeTableWord (nbits w : Nat) : Option Instr :=
  let word := BitVec.ofNat 32 (w % 2 ^ nbits)
  (decodeBytes [byteOf word 0, byteOf word 1, byteOf word 2, byteOf word 3]).toOption

/-- R104, R105. -/
def encDpImm (c : Cond) (op : BitVec 4) (sf : Bool) (r1 r2 : RegNo) (rot : BitVec 4) (imm : BitVec 8) : Word :=
  pack c.bits (0b001#3 ++ op.extractLsb' 3 1) (op.extractLsb' 0 3 ++ bit sf) r1 r2 rot (imm.extractLsb' 4 4) (imm.extractLsb' 0 4)

/-- R104, R106, bit 4 = 0. -/
def encDpShiftImm (c : Cond) (op : BitVec 4) (sf : Bool) (r1 r2 : RegNo) (amount : BitVec 5) (kind : ShiftKind) (rm : RegNo) :
    Word :=
  pack c.bits (0b000#3 ++ op.extractLsb' 3 1) (op.extractLsb' 0 3 ++ bit sf) r1 r2 (amount.extractLsb' 1 4)
    (amount.extractLsb' 0 1 ++ kind.bits ++ 0b0#1) rm

/-- R104, R106, bit 4 = 1 and bit 7 = 0. -/
def encDpShiftReg (c : Cond) (op : BitVec 4) (sf : Bool) (r1 r2 rs : RegNo) (kind : ShiftKind) (rm : RegNo) : Word :=
  pack c.bits (0b000#3 ++ op.extractLsb' 3 1) (op.extractLsb' 0 3 ++ bit sf) r1 r2 rs (0b0#1 ++ kind.bits ++ 0b1#1) rm

/-- R115, I = 0. -/
def encSingleImm (c : Cond) (p u b w l : Bool) (rn rd : RegNo) (imm : BitVec 12) : Word :=
  pack c.bits (0b010#3 ++ bit p) (bit u ++ bit b ++ bit w ++ bit l) rn rd (imm.extractLsb' 8 4) (imm.extractLsb' 4 4)
    (imm.extractLsb' 0 4)

/-- R115, I = 1 and bit 4 = 0. -/
def encSingleReg (c : Cond) (p u b w l : Bool) (rn rd : RegNo) (amount : BitVec 5) (kind : ShiftKind) (rm : RegNo) : Word :=
  pack c.bits (0b011#3 ++ bit p) (bit u ++ bit b ++ bit w ++ bit l) rn rd (amount.extractLsb' 1 4)
    (amount.extractLsb' 0 1 ++ kind.bits ++ 0b0#1) rm

/-- R118. -/
def encMultiple (c : Cond) (p u s w l : Bool) (rn : RegNo) (list : BitVec 16) : Word :=
  pack c.bits (0b100#3 ++ bit p) (bit u ++ bit s ++ bit w ++ bit l) rn (list.extractLsb' 12 4) (list.extractLsb' 8 4)
    (list.extractLsb' 4 4) (list.extractLsb' 0 4)

/-- R126. -/
def encCpTransfer (c : Cond) (p u n w l : Bool) (rn crd cp : BitVec 4) (imm : BitVec 8) : Word :=
  pack c.bits (0b110#3 ++ bit p) (bit u ++ bit n ++ bit w ++ bit l) rn crd cp (imm.extractLsb' 4 4) (imm.extractLsb' 0 4)

/-- The formats whose bits 23:0 are one field: branches (R113, R114) and SWI (R116). -/
def enc24 (n7 n6 : BitVec 4) (imm : BitVec 24) : Word :=
  pack n7 n6 (imm.extractLsb' 20 4) (imm.extractLsb' 16 4) (imm.extractLsb' 12 4) (imm.extractLsb' 8 4) (imm.extractLsb' 4 4)
    (imm.extractLsb' 0 4)

/-- The word of an instruction (R104 to R127, R131). -/
def encode : Instr → Word
  | .andImm c sf rn rd rot imm => encDpImm c 0b0000 sf rn rd rot imm
  | .andShiftImm c sf rn rd amount kind rm => encDpShiftImm c 0b0000 sf rn rd amount kind rm
  | .andShiftReg c sf rn rd rs kind rm => encDpShiftReg c 0b0000 sf rn rd rs kind rm
  | .eorImm c sf rn rd rot imm => encDpImm c 0b0001 sf rn rd rot imm
  | .eorShiftImm c sf rn rd amount kind rm => encDpShiftImm c 0b0001 sf rn rd amount kind rm
  | .eorShiftReg c sf rn rd rs kind rm => encDpShiftReg c 0b0001 sf rn rd rs kind rm
  | .subImm c sf rn rd rot imm => encDpImm c 0b0010 sf rn rd rot imm
  | .subShiftImm c sf rn rd amount kind rm => encDpShiftImm c 0b0010 sf rn rd amount kind rm
  | .subShiftReg c sf rn rd rs kind rm => encDpShiftReg c 0b0010 sf rn rd rs kind rm
  | .rsbImm c sf rn rd rot imm => encDpImm c 0b0011 sf rn rd rot imm
  | .rsbShiftImm c sf rn rd amount kind rm => encDpShiftImm c 0b0011 sf rn rd amount kind rm
  | .rsbShiftReg c sf rn rd rs kind rm => encDpShiftReg c 0b0011 sf rn rd rs kind rm
  | .addImm c sf rn rd rot imm => encDpImm c 0b0100 sf rn rd rot imm
  | .addShiftImm c sf rn rd amount kind rm => encDpShiftImm c 0b0100 sf rn rd amount kind rm
  | .addShiftReg c sf rn rd rs kind rm => encDpShiftReg c 0b0100 sf rn rd rs kind rm
  | .adcImm c sf rn rd rot imm => encDpImm c 0b0101 sf rn rd rot imm
  | .adcShiftImm c sf rn rd amount kind rm => encDpShiftImm c 0b0101 sf rn rd amount kind rm
  | .adcShiftReg c sf rn rd rs kind rm => encDpShiftReg c 0b0101 sf rn rd rs kind rm
  | .sbcImm c sf rn rd rot imm => encDpImm c 0b0110 sf rn rd rot imm
  | .sbcShiftImm c sf rn rd amount kind rm => encDpShiftImm c 0b0110 sf rn rd amount kind rm
  | .sbcShiftReg c sf rn rd rs kind rm => encDpShiftReg c 0b0110 sf rn rd rs kind rm
  | .rscImm c sf rn rd rot imm => encDpImm c 0b0111 sf rn rd rot imm
  | .rscShiftImm c sf rn rd amount kind rm => encDpShiftImm c 0b0111 sf rn rd amount kind rm
  | .rscShiftReg c sf rn rd rs kind rm => encDpShiftReg c 0b0111 sf rn rd rs kind rm
  | .tstImm c rn sbz rot imm => encDpImm c 0b1000 true rn sbz rot imm
  | .tstShiftImm c rn sbz amount kind rm => encDpShiftImm c 0b1000 true rn sbz amount kind rm
  | .tstShiftReg c rn sbz rs kind rm => encDpShiftReg c 0b1000 true rn sbz rs kind rm
  | .teqImm c rn sbz rot imm => encDpImm c 0b1001 true rn sbz rot imm
  | .teqShiftImm c rn sbz amount kind rm => encDpShiftImm c 0b1001 true rn sbz amount kind rm
  | .teqShiftReg c rn sbz rs kind rm => encDpShiftReg c 0b1001 true rn sbz rs kind rm
  | .cmpImm c rn sbz rot imm => encDpImm c 0b1010 true rn sbz rot imm
  | .cmpShiftImm c rn sbz amount kind rm => encDpShiftImm c 0b1010 true rn sbz amount kind rm
  | .cmpShiftReg c rn sbz rs kind rm => encDpShiftReg c 0b1010 true rn sbz rs kind rm
  | .cmnImm c rn sbz rot imm => encDpImm c 0b1011 true rn sbz rot imm
  | .cmnShiftImm c rn sbz amount kind rm => encDpShiftImm c 0b1011 true rn sbz amount kind rm
  | .cmnShiftReg c rn sbz rs kind rm => encDpShiftReg c 0b1011 true rn sbz rs kind rm
  | .orrImm c sf rn rd rot imm => encDpImm c 0b1100 sf rn rd rot imm
  | .orrShiftImm c sf rn rd amount kind rm => encDpShiftImm c 0b1100 sf rn rd amount kind rm
  | .orrShiftReg c sf rn rd rs kind rm => encDpShiftReg c 0b1100 sf rn rd rs kind rm
  | .movImm c sf sbz rd rot imm => encDpImm c 0b1101 sf sbz rd rot imm
  | .movShiftImm c sf sbz rd amount kind rm => encDpShiftImm c 0b1101 sf sbz rd amount kind rm
  | .movShiftReg c sf sbz rd rs kind rm => encDpShiftReg c 0b1101 sf sbz rd rs kind rm
  | .bicImm c sf rn rd rot imm => encDpImm c 0b1110 sf rn rd rot imm
  | .bicShiftImm c sf rn rd amount kind rm => encDpShiftImm c 0b1110 sf rn rd amount kind rm
  | .bicShiftReg c sf rn rd rs kind rm => encDpShiftReg c 0b1110 sf rn rd rs kind rm
  | .mvnImm c sf sbz rd rot imm => encDpImm c 0b1111 sf sbz rd rot imm
  | .mvnShiftImm c sf sbz rd amount kind rm => encDpShiftImm c 0b1111 sf sbz rd amount kind rm
  | .mvnShiftReg c sf sbz rd rs kind rm => encDpShiftReg c 0b1111 sf sbz rd rs kind rm
  | .mul c sf rd sbz rs rm => pack c.bits 0b0000 (0b000#3 ++ bit sf) rd sbz rs 0b1001 rm
  | .mla c sf rd rn rs rm => pack c.bits 0b0000 (0b001#3 ++ bit sf) rd rn rs 0b1001 rm
  | .umull c sf rdHi rdLo rs rm => pack c.bits 0b0000 (0b100#3 ++ bit sf) rdHi rdLo rs 0b1001 rm
  | .umlal c sf rdHi rdLo rs rm => pack c.bits 0b0000 (0b101#3 ++ bit sf) rdHi rdLo rs 0b1001 rm
  | .smull c sf rdHi rdLo rs rm => pack c.bits 0b0000 (0b110#3 ++ bit sf) rdHi rdLo rs 0b1001 rm
  | .smlal c sf rdHi rdLo rs rm => pack c.bits 0b0000 (0b111#3 ++ bit sf) rdHi rdLo rs 0b1001 rm
  | .clz c sboHi rd sboLo rm => pack c.bits 0b0001 0b0110 sboHi rd sboLo 0b0001 rm
  | .swp c rn rd sbz rm => pack c.bits 0b0001 0b0000 rn rd sbz 0b1001 rm
  | .swpb c rn rd sbz rm => pack c.bits 0b0001 0b0100 rn rd sbz 0b1001 rm
  | .mrs c spsr sbo rd sbzHi sbzLo => pack c.bits 0b0001 (0b0#1 ++ bit spsr ++ 0b00#2) sbo rd sbzHi 0b0000 sbzLo
  | .msrReg c spsr fields sbo sbz rm => pack c.bits 0b0001 (0b0#1 ++ bit spsr ++ 0b10#2) fields sbo sbz 0b0000 rm
  | .msrImm c spsr fields sbo rot imm => pack c.bits 0b0011 (0b0#1 ++ bit spsr ++ 0b10#2) fields sbo rot (imm.extractLsb' 4 4) (imm.extractLsb' 0 4)
  | .bx c sbo rm => pack c.bits 0b0001 0b0010 (sbo.extractLsb' 8 4) (sbo.extractLsb' 4 4) (sbo.extractLsb' 0 4) 0b0001 rm
  | .blxReg c sbo rm => pack c.bits 0b0001 0b0010 (sbo.extractLsb' 8 4) (sbo.extractLsb' 4 4) (sbo.extractLsb' 0 4) 0b0011 rm
  | .bkpt c immH immL => pack c.bits 0b0001 0b0010 (immH.extractLsb' 8 4) (immH.extractLsb' 4 4) (immH.extractLsb' 0 4) 0b0111 immL
  | .strhImm c p u w rn rd immH immL => pack c.bits (0b000#3 ++ bit p) (bit u ++ 0b1#1 ++ bit w ++ bit false) rn rd immH 0b1011 immL
  | .strhReg c p u w rn rd sbz rm => pack c.bits (0b000#3 ++ bit p) (bit u ++ 0b0#1 ++ bit w ++ bit false) rn rd sbz 0b1011 rm
  | .ldrhImm c p u w rn rd immH immL => pack c.bits (0b000#3 ++ bit p) (bit u ++ 0b1#1 ++ bit w ++ bit true) rn rd immH 0b1011 immL
  | .ldrhReg c p u w rn rd sbz rm => pack c.bits (0b000#3 ++ bit p) (bit u ++ 0b0#1 ++ bit w ++ bit true) rn rd sbz 0b1011 rm
  | .ldrsbImm c p u w rn rd immH immL => pack c.bits (0b000#3 ++ bit p) (bit u ++ 0b1#1 ++ bit w ++ bit true) rn rd immH 0b1101 immL
  | .ldrsbReg c p u w rn rd sbz rm => pack c.bits (0b000#3 ++ bit p) (bit u ++ 0b0#1 ++ bit w ++ bit true) rn rd sbz 0b1101 rm
  | .ldrshImm c p u w rn rd immH immL => pack c.bits (0b000#3 ++ bit p) (bit u ++ 0b1#1 ++ bit w ++ bit true) rn rd immH 0b1111 immL
  | .ldrshReg c p u w rn rd sbz rm => pack c.bits (0b000#3 ++ bit p) (bit u ++ 0b0#1 ++ bit w ++ bit true) rn rd sbz 0b1111 rm
  | .ldrImm c u w rn rd imm => encSingleImm c true u false w true rn rd imm
  | .ldrImmPost c u rn rd imm => encSingleImm c false u false false true rn rd imm
  | .ldrtImm c u rn rd imm => encSingleImm c false u false true true rn rd imm
  | .ldrReg c u w rn rd amount kind rm => encSingleReg c true u false w true rn rd amount kind rm
  | .ldrRegPost c u rn rd amount kind rm => encSingleReg c false u false false true rn rd amount kind rm
  | .ldrtReg c u rn rd amount kind rm => encSingleReg c false u false true true rn rd amount kind rm
  | .strImm c u w rn rd imm => encSingleImm c true u false w false rn rd imm
  | .strImmPost c u rn rd imm => encSingleImm c false u false false false rn rd imm
  | .strtImm c u rn rd imm => encSingleImm c false u false true false rn rd imm
  | .strReg c u w rn rd amount kind rm => encSingleReg c true u false w false rn rd amount kind rm
  | .strRegPost c u rn rd amount kind rm => encSingleReg c false u false false false rn rd amount kind rm
  | .strtReg c u rn rd amount kind rm => encSingleReg c false u false true false rn rd amount kind rm
  | .ldrbImm c u w rn rd imm => encSingleImm c true u true w true rn rd imm
  | .ldrbImmPost c u rn rd imm => encSingleImm c false u true false true rn rd imm
  | .ldrbtImm c u rn rd imm => encSingleImm c false u true true true rn rd imm
  | .ldrbReg c u w rn rd amount kind rm => encSingleReg c true u true w true rn rd amount kind rm
  | .ldrbRegPost c u rn rd amount kind rm => encSingleReg c false u true false true rn rd amount kind rm
  | .ldrbtReg c u rn rd amount kind rm => encSingleReg c false u true true true rn rd amount kind rm
  | .strbImm c u w rn rd imm => encSingleImm c true u true w false rn rd imm
  | .strbImmPost c u rn rd imm => encSingleImm c false u true false false rn rd imm
  | .strbtImm c u rn rd imm => encSingleImm c false u true true false rn rd imm
  | .strbReg c u w rn rd amount kind rm => encSingleReg c true u true w false rn rd amount kind rm
  | .strbRegPost c u rn rd amount kind rm => encSingleReg c false u true false false rn rd amount kind rm
  | .strbtReg c u rn rd amount kind rm => encSingleReg c false u true true false rn rd amount kind rm
  | .ldm c p u w rn list => encMultiple c p u false w true rn list
  | .ldmUser c p u w rn list => encMultiple c p u true w true rn (0b0#1 ++ list)
  | .ldmReturn c p u w rn list => encMultiple c p u true w true rn (0b1#1 ++ list)
  | .stm c p u w rn list => encMultiple c p u false w false rn list
  | .stmUser c p u w rn list => encMultiple c p u true w false rn list
  | .b c imm => enc24 c.bits 0b1010 imm
  | .bl c imm => enc24 c.bits 0b1011 imm
  | .blxImm h imm => enc24 0b1111 (0b101#3 ++ bit h) imm
  | .ldcOffset c u n w rn crd cp imm => encCpTransfer c true u n w true rn crd cp imm
  | .ldcPostUp c n w rn crd cp imm => encCpTransfer c false true n w true rn crd cp imm
  | .ldcPostDown c n rn crd cp imm => encCpTransfer c false false n true true rn crd cp imm
  | .stcOffset c u n w rn crd cp imm => encCpTransfer c true u n w false rn crd cp imm
  | .stcPostUp c n w rn crd cp imm => encCpTransfer c false true n w false rn crd cp imm
  | .stcPostDown c n rn crd cp imm => encCpTransfer c false false n true false rn crd cp imm
  | .cdp c op1 crn crd cp op2 crm => pack c.bits 0b1110 op1 crn crd cp (op2 ++ 0b0#1) crm
  | .mcr c op1 crn rd cp op2 crm => pack c.bits 0b1110 (op1 ++ 0b0#1) crn rd cp (op2 ++ 0b1#1) crm
  | .mrc c op1 crn rd cp op2 crm => pack c.bits 0b1110 (op1 ++ 0b1#1) crn rd cp (op2 ++ 0b1#1) crm
  | .swi c imm => enc24 c.bits 0b1111 imm

end Sys2Proof
end

