-- ==== Sys2Proof/Machine/State.lean ====
section
/-! DEFINITION. The state of the machine: all of spec/10_state.md R20 to R44 as plain data, the parameters and inputs of
spec/00_scope.md R5 beside it, the ways a step can stop, and the state after reset (R44, spec/70_reset_and_hazards.md R461). -/

namespace Sys2Proof.Machine

/-- The seven modes of spec/10_state.md R35. -/
inductive Mode where
  | user
  | fiq
  | irq
  | supervisor
  | abort
  | undefined
  | system
deriving DecidableEq, Repr

/-- A physical register of spec/10_state.md R21, R22: `usr i` is r`i` of the base bank, `fiq i` is r`8+i`_fiq, the others hold
r13 and r14 of their mode, `pc` is r15, one for all modes. -/
inductive PhysReg where
  | usr (i : Fin 15)
  | fiq (i : Fin 7)
  | irq (i : Fin 2)
  | svc (i : Fin 2)
  | abt (i : Fin 2)
  | und (i : Fin 2)
  | pc
deriving DecidableEq, Repr

/-- The thirty physical general registers beside the pc (R21). -/
structure Banks where
  /-- r0 to r14 of User and System mode; r0 to r7 are shared by all modes, r8 to r12 by all but FIQ. -/
  usr : Vector Word 15
  /-- r8_fiq to r14_fiq. -/
  fiq : Vector Word 7
  /-- r13_irq, r14_irq. -/
  irq : Vector Word 2
  /-- r13_svc, r14_svc. -/
  svc : Vector Word 2
  /-- r13_abt, r14_abt. -/
  abt : Vector Word 2
  /-- r13_und, r14_und. -/
  und : Vector Word 2
deriving DecidableEq, Repr

/-- The five saved program status registers (R37). -/
structure Spsrs where
  fiq : Word
  svc : Word
  abt : Word
  irq : Word
  und : Word
deriving DecidableEq, Repr

/-- One sample of the three input lines, taken at the head of a step (R42, spec/60_exceptions.md R420, R421). Log 7. -/
structure Lines where
  reset : Bool
  fiq : Bool
  irq : Bool
deriving DecidableEq, Repr

/-- The memory (R41): the bytes that differ from what an unlisted address reads as, addresses strictly rising. Log 1. -/
abbrev Memory := List Host.Cell

/-- The machine. -/
structure State where
  /-- The parameters of spec/00_scope.md R5; no step changes them (R43). Log 4. -/
  cfg : Config
  banks : Banks
  /-- The address of the instruction being executed (R27). -/
  pc : Word
  /-- R31: N Z C V in bits 31:28, unused bits 27:8, I F T in bits 7, 6, 5, M in bits 4:0. -/
  cpsr : Word
  spsr : Spsrs
  mem : Memory
  /-- The samples of the input lines for the steps to come, the next one first; all low when the list has ended. Log 7. -/
  lines : List Lines
  /-- What the coprocessors present will answer, the next answer first (spec/49_coprocessor_and_undefined.md R351). Log 9. -/
  cpReplies : List CpReply
  /-- MODEL FIELD: what has passed to and from coprocessors, the newest first. Log 9. -/
  cpSent : List CpEvent
  /-- MODEL FIELD: the last step was an LDM of the User bank (spec/70_reset_and_hazards.md R471). Log 13. -/
  userBankWindow : Bool
  /-- MODEL FIELD: how many free values have been taken. Log 8. -/
  draws : Nat
deriving DecidableEq, Repr

/-- Nothing stops this machine with a fault: the seven exceptions of spec/60_exceptions.md R401 are entered as next states and
every address exists (R41). The type has no constructor; nobody raises it. -/
inductive Fault where
deriving DecidableEq, Repr

/-- Why a step has no next state. -/
inductive Refusal where
  /-- Raised by the step when CPSR.T = 1: no Thumb instruction is in the spec (spec/40_execution_and_conditions.md R142,
  spec/00_scope.md R4). Safe: the hardware goes on, the model proves nothing of it. Log 12. -/
  | thumbState
  /-- Raised by the step or by a meaning in a case the spec calls UNPREDICTABLE (spec/00_scope.md R13: the model must refuse the
  step); `why` names the case. Safe: the hardware does something, the model proves nothing of it. Log 11. -/
  | unpredictable (why : Unpredictable)
  /-- Raised by an arm of `exec` whose instruction has no meaning yet. Safe. No arm raises it. -/
  | notModelled (mnemonic : String)
deriving DecidableEq, Repr

/-- The machine right after reset (R44, R461): Supervisor mode, ARM state, both interrupts masked, the pc at the reset vector.
Every general register, the flags, the unused bits and the five SPSRs have no reset value in the spec and hold 0 here
(DESIGN CHOICE, log 2); memory lists nothing (log 1); the parameters have their default column (log 4); no input is waiting. -/
def State.reset : State where
  cfg := Config.standard
  banks := { usr := Vector.replicate 15 0, fiq := Vector.replicate 7 0, irq := Vector.replicate 2 0,
             svc := Vector.replicate 2 0, abt := Vector.replicate 2 0, und := Vector.replicate 2 0 }
  pc := 0x00000000
  cpsr := 0x000000D3
  spsr := { fiq := 0, svc := 0, abt := 0, irq := 0, und := 0 }
  mem := []
  lines := []
  cpReplies := []
  cpSent := []
  userBankWindow := false
  draws := 0

end Sys2Proof.Machine
end

