-- ==== Sys2Proof/Machine/Memory.lean ====
section
/-! DEFINITION. The memory as a canonical list of bytes (spec/10_state.md R41) and the little-endian values it holds
(spec/20_memory.md R60, R61, R74). -/

namespace Sys2Proof.Machine

/-- What an address that is not listed reads as. The spec gives memory no reset contents (R44); DESIGN CHOICE, log 1. -/
def unlistedByte : Byte := 0

/-- The byte at an address. -/
def Memory.read : Memory → Nat → Byte
  | [], _ => unlistedByte
  | c :: m, a => if c.1 = a then c.2 else Memory.read m a

/-- Writes one byte and keeps the canonical form: writing what an unlisted address reads as removes the entry. -/
def Memory.write : Memory → Nat → Byte → Memory
  | [], a, v => if v = unlistedByte then [] else [(a, v)]
  | c :: m, a, v =>
    if a < c.1 then (if v = unlistedByte then c :: m else (a, v) :: c :: m)
    else if a = c.1 then (if v = unlistedByte then m else (a, v) :: m)
    else c :: Memory.write m a v

/-- The canonical form: addresses strictly rising, inside the address space, no entry equal to what an unlisted address reads. -/
abbrev Memory.wf (m : Memory) : Prop :=
  m.Pairwise (fun c d => c.1 < d.1) ∧ ∀ c ∈ m, c.1 < 2 ^ 32 ∧ c.2 ≠ unlistedByte

/-- The 32-bit little-endian word whose lowest byte is at `a` (R60, R61). -/
def Memory.readWord (m : Memory) (a : Nat) : Word :=
  wordOfBytes (m.read a) (m.read (a + 1)) (m.read (a + 2)) (m.read (a + 3))

/-- Stores bytes 0, 1, … of `v` at `a`, `a + 1`, … (R63): `n` of them. -/
def Memory.writeBytes (m : Memory) (a : Nat) (v : Word) : Nat → Memory
  | 0 => m
  | n + 1 => (m.writeBytes a v n).write (a + n) (byteOf v n)

end Sys2Proof.Machine
end

