-- ==== Sys2Proof/Machine/Flags.lean ====
section
/-! DEFINITION. Status register words (spec/10_state.md R31 to R38), the condition test (spec/40_execution_and_conditions.md
R145) and the flag computations (spec/00_scope.md R9, spec/43_data_processing.md R191). -/

namespace Sys2Proof.Machine

/-- The mode a mode field names, none for the values that are no mode (R35). -/
def Mode.ofBits : BitVec 5 → Option Mode
  | 0b10000#5 => some .user
  | 0b10001#5 => some .fiq
  | 0b10010#5 => some .irq
  | 0b10011#5 => some .supervisor
  | 0b10111#5 => some .abort
  | 0b11011#5 => some .undefined
  | 0b11111#5 => some .system
  | _ => none

/-- The mode field of a mode (R35). -/
def Mode.bits : Mode → BitVec 5
  | .user => 0b10000
  | .fiq => 0b10001
  | .irq => 0b10010
  | .supervisor => 0b10011
  | .abort => 0b10111
  | .undefined => 0b11011
  | .system => 0b11111

/-- M, bits 4:0 of a status word (R31, R35). -/
def psrMode (p : Word) : BitVec 5 := p.extractLsb' 0 5

/-- N, Z, C, V, I, F, T of a status word (R31). -/
def psrN (p : Word) : Bool := p.getLsbD 31
def psrZ (p : Word) : Bool := p.getLsbD 30
def psrC (p : Word) : Bool := p.getLsbD 29
def psrV (p : Word) : Bool := p.getLsbD 28
def psrI (p : Word) : Bool := p.getLsbD 7
def psrF (p : Word) : Bool := p.getLsbD 6
def psrT (p : Word) : Bool := p.getLsbD 5

/-- A status word with the four condition flags replaced; bits 27:0 stay (R32). -/
def psrWithFlags (p : Word) (n z c v : Bool) : Word := bit n ++ bit z ++ bit c ++ bit v ++ p.extractLsb' 0 28

/-- A status word with T replaced (R34). -/
def psrWithT (p : Word) (t : Bool) : Word := p.extractLsb' 6 26 ++ bit t ++ p.extractLsb' 0 5

/-- The status word an exception entry leaves (spec/60_exceptions.md R410): bits 31:8 stay, I = 1, T = 0, F = 1 when `setF` and
unchanged otherwise, M is the mode entered. -/
def psrOnEntry (p : Word) (m : Mode) (setF : Bool) : Word :=
  p.extractLsb' 8 24 ++ bit true ++ bit (setF || psrF p) ++ bit false ++ m.bits

/-- Whether a condition passes under the flags of a status word (R144, R145). -/
def conditionHolds (c : Cond) (p : Word) : Bool :=
  match c with
  | .eq => psrZ p
  | .ne => !psrZ p
  | .cs => psrC p
  | .cc => !psrC p
  | .mi => psrN p
  | .pl => !psrN p
  | .vs => psrV p
  | .vc => !psrV p
  | .hi => psrC p && !psrZ p
  | .ls => !(psrC p && !psrZ p)
  | .ge => psrN p == psrV p
  | .lt => !(psrN p == psrV p)
  | .gt => psrN p == psrV p && !psrZ p
  | .le => !(psrN p == psrV p && !psrZ p)
  | .al => true

/-- What an operation of the arithmetic unit gives: the result and the values for C and V. -/
structure AluOut where
  result : Word
  carry : Bool
  overflow : Bool
deriving DecidableEq, Repr

/-- spec/00_scope.md R9: the exact sums as a natural and as an integer, narrowed at the end. -/
def addWithCarry (x y : Word) (cin : Bool) : AluOut :=
  let usum : Nat := x.toNat + y.toNat + cin.toNat
  let ssum : Int := x.toInt + y.toInt + (cin.toNat : Int)
  { result := BitVec.ofNat 32 usum
    carry := decide (2 ^ 32 ≤ usum)
    overflow := decide (ssum < -2 ^ 31) || decide (2 ^ 31 - 1 < ssum) }

/-- A logical result: C is the shifter's carry-out, V stays as it is in the status word `p` (R191). -/
def logical (result : Word) (shifterCarry : Bool) (p : Word) : AluOut :=
  { result := result, carry := shifterCarry, overflow := psrV p }

/-- A status word with N and Z from the result and C, V from the operation (R191). -/
def psrWithAlu (p : Word) (o : AluOut) : Word :=
  psrWithFlags p (o.result.getLsbD 31) (o.result == 0) o.carry o.overflow

end Sys2Proof.Machine
end

