-- ==== Sys2Proof/Machine/Operands.lean ====
section
/-! DEFINITION. The shifts (spec/00_scope.md R8), the three forms of the second operand (spec/43_data_processing.md R192 to R194)
and the offsets of the transfers (spec/45_load_store_word_byte.md R265, spec/46_load_store_halfword_signed.md R291,
spec/47_load_store_multiple.md R311). Every function takes the register values it needs, read by the meaning that calls it. -/

namespace Sys2Proof.Machine

/-- LSL of R8. -/
def lsl (v : Word) (n : Nat) : Word := BitVec.ofNat 32 (v.toNat * 2 ^ n)

/-- LSR of R8. -/
def lsr (v : Word) (n : Nat) : Word := BitVec.ofNat 32 (v.toNat / 2 ^ n)

/-- ASR of R8: the floor of the signed value divided by a power of two. -/
def asr (v : Word) (n : Nat) : Word := BitVec.ofInt 32 (v.toInt / 2 ^ n)

/-- ROR of R8. -/
def ror (v : Word) (n : Nat) : Word := lsr v (n % 32) ||| lsl v (32 - n % 32)

/-- The word all of whose bits are bit 31 of `v`. -/
def signFill (v : Word) : Word := if v.getLsbD 31 then 0xFFFFFFFF else 0

/-- RRX: the carry flag shifted in at bit 31 (R193, R265). -/
def rrx (v : Word) (carryIn : Bool) : Word := (if carryIn then 0x80000000 else 0) ||| lsr v 1

/-- A second operand: `op2` and `shifter_carry_out`. -/
structure Operand where
  value : Word
  carry : Bool
deriving DecidableEq, Repr

/-- The constant of a rotated 8-bit immediate (R105, R192, R336). -/
def rotatedImmediate (rot : BitVec 4) (imm : BitVec 8) : Word := ror (imm.setWidth 32) (2 * rot.toNat)

/-- Immediate operand (R192). -/
def immOperand (rot : BitVec 4) (imm : BitVec 8) (c : Bool) : Operand :=
  let v := rotatedImmediate rot imm
  { value := v, carry := if rot = 0 then c else v.getLsbD 31 }

/-- Register shifted by an immediate (R193). -/
def shiftImmOperand (kind : ShiftKind) (amount : BitVec 5) (rm : Word) (c : Bool) : Operand :=
  let n := amount.toNat
  match kind with
  | .lsl => if n = 0 then { value := rm, carry := c } else { value := lsl rm n, carry := rm.getLsbD (32 - n) }
  | .lsr => if n = 0 then { value := 0, carry := rm.getLsbD 31 } else { value := lsr rm n, carry := rm.getLsbD (n - 1) }
  | .asr =>
    if n = 0 then { value := signFill rm, carry := rm.getLsbD 31 } else { value := asr rm n, carry := rm.getLsbD (n - 1) }
  | .ror => if n = 0 then { value := rrx rm c, carry := rm.getLsbD 0 } else { value := ror rm n, carry := rm.getLsbD (n - 1) }

/-- Register shifted by the low byte of a register (R194). -/
def shiftRegOperand (kind : ShiftKind) (rs : Word) (rm : Word) (c : Bool) : Operand :=
  let n := rs.toNat % 256
  if n = 0 then { value := rm, carry := c }
  else
    match kind with
    | .lsl =>
      if n < 32 then { value := lsl rm n, carry := rm.getLsbD (32 - n) }
      else if n = 32 then { value := 0, carry := rm.getLsbD 0 }
      else { value := 0, carry := false }
    | .lsr =>
      if n < 32 then { value := lsr rm n, carry := rm.getLsbD (n - 1) }
      else if n = 32 then { value := 0, carry := rm.getLsbD 31 }
      else { value := 0, carry := false }
    | .asr =>
      if n < 32 then { value := asr rm n, carry := rm.getLsbD (n - 1) }
      else { value := signFill rm, carry := rm.getLsbD 31 }
    | .ror =>
      if n % 32 = 0 then { value := rm, carry := rm.getLsbD 31 }
      else { value := ror rm (n % 32), carry := rm.getLsbD (n % 32 - 1) }

/-- The scaled register offset of the single transfers (R265): the operand of R193 without its carry-out. -/
def scaledOffset (kind : ShiftKind) (amount : BitVec 5) (rm : Word) (c : Bool) : Word :=
  let n := amount.toNat
  match kind with
  | .lsl => lsl rm n
  | .lsr => if n = 0 then 0 else lsr rm n
  | .asr => if n = 0 then signFill rm else asr rm n
  | .ror => if n = 0 then rrx rm c else ror rm n

/-- The base plus or minus the offset, by the U bit (R265, R291, spec/49_coprocessor_and_undefined.md R353). -/
def upDown (u : Bool) (base off : Word) : Word := if u then base + off else base - off

/-- Where a single transfer goes and what becomes of its base register: `(address, writeback, target)` of R265, R291. -/
structure Transfer where
  address : Word
  writeback : Bool
  target : Word
deriving DecidableEq, Repr

/-- `AddrMode2` (R265). -/
def addrMode2 (p u w : Bool) (base off : Word) : Transfer :=
  let target := upDown u base off
  { address := if p then target else base, writeback := !p || w, target := target }

/-- `AddrMode3` (R291); P = 0 with W = 1 never gets here (R296). -/
def addrMode3 (p u w : Bool) (base off : Word) : Transfer :=
  let target := upDown u base off
  { address := if p then target else base, writeback := !p || w, target := target }

/-- The immediate offset of the halfword and signed transfers (R291). -/
def splitOffset (immH immL : BitVec 4) : Word := (immH ++ immL).setWidth 32

/-- The address formation of LDC and STC (R353). -/
def cpTransfer (p u w : Bool) (base : Word) (imm : BitVec 8) : Transfer :=
  let target := upDown u base (imm.setWidth 32 * 4)
  { address := if p then target else base, writeback := w, target := target }

/-- The registers of a list, the lowest first (spec/47_load_store_multiple.md R310, R313). -/
def listedRegs {n : Nat} (list : BitVec n) : List RegNo :=
  ((List.range n).filter fun i => list.getLsbD i).map fun i => BitVec.ofNat 4 i

/-- `start_address` of R311 for `n` registers. -/
def startAddress (p u : Bool) (base : Word) (n : Nat) : Word :=
  match u, p with
  | true, false => base
  | true, true => base + 4
  | false, false => base - BitVec.ofNat 32 (4 * n) + 4
  | false, true => base - BitVec.ofNat 32 (4 * n)

/-- The new base of R311 for `n` registers. -/
def newBase (u : Bool) (base : Word) (n : Nat) : Word := upDown u base (BitVec.ofNat 32 (4 * n))

/-- The target of B, BL and BLX (immediate) without the H bit (R161, R166): `pc + 8 + (sext_24(imm) << 2)`. -/
def branchTarget (pc : Word) (imm : BitVec 24) : Word := pc + 8 + (imm.signExtend 32 <<< 2)

/-- How many consecutive 0 bits a list of bits starts with. -/
def leadingZeros : List Bool → Nat
  | [] => 0
  | b :: bs => if b then 0 else leadingZeros bs + 1

/-- `CountLeadingZeros` (R14, R249): from bit 31 down. -/
def countLeadingZeros (v : Word) : Nat := leadingZeros ((List.range 32).map fun i => v.getLsbD (31 - i))

end Sys2Proof.Machine
end

