-- ==== Sys2Proof/Machine/Restrictions.lean ====
section
/-! DEFINITION. What is read off an instruction alone: its condition, the parameter it needs, the registers it names, and the
restrictions on its operands: the operand values for which spec/ calls it UNPREDICTABLE, read
off the instruction alone (spec/93_implementation_defined.md U17, U18, U23 to U25, U28 to U31, U36, U39, U40, U42). A meaning refuses them
(spec/00_scope.md R13); those that depend on the state stand in the meanings. -/

namespace Sys2Proof.Machine

/-- The case `u` when the test holds. -/
def Restrict.when (b : Bool) (u : Unpredictable) : Option Unpredictable := if b then some u else none

/-- A should-be-zero field (spec/30_encoding.md R133). -/
def Restrict.zero {n : Nat} (sbz : BitVec n) : Option Unpredictable := Restrict.when (sbz != 0) .shouldBeField

/-- A should-be-one field (R133). -/
def Restrict.ones {n : Nat} (sbo : BitVec n) : Option Unpredictable := Restrict.when (sbo != BitVec.allOnes n) .shouldBeField

/-- r15 with a shift amount in a register (spec/43_data_processing.md R195). -/
def Restrict.shiftReg (sbz : BitVec 4) (regs : List RegNo) : Option Unpredictable :=
  (Restrict.zero sbz).or (Restrict.when (regs.contains 15) .shiftRegR15)

/-- MUL (spec/44_multiply_clz.md R246). -/
def Restrict.mul (rd : RegNo) (sbz : BitVec 4) (rs rm : RegNo) : Option Unpredictable :=
  (Restrict.zero sbz).or (Restrict.when ([rd, rs, rm].contains 15 || rd == rm) .multiplyRegisters)

/-- MLA (R246). -/
def Restrict.mla (rd rn rs rm : RegNo) : Option Unpredictable :=
  Restrict.when ([rd, rn, rs, rm].contains 15 || rd == rm) .multiplyRegisters

/-- The long multiplies (R246). -/
def Restrict.mulLong (rdHi rdLo rs rm : RegNo) : Option Unpredictable :=
  Restrict.when ([rdHi, rdLo, rs, rm].contains 15 || rdHi == rm || rdLo == rm || rdHi == rdLo) .multiplyRegisters

/-- CLZ (R249). -/
def Restrict.clz (sboHi : BitVec 4) (rd : RegNo) (sboLo : BitVec 4) (rm : RegNo) : Option Unpredictable :=
  ((Restrict.ones sboHi).or (Restrict.ones sboLo)).or (Restrict.when ([rd, rm].contains 15) .clzR15)

/-- SWP and SWPB (spec/48_swap_and_status_register.md R330). -/
def Restrict.swap (rn rd : RegNo) (sbz : BitVec 4) (rm : RegNo) : Option Unpredictable :=
  (Restrict.zero sbz).or (Restrict.when ([rn, rd, rm].contains 15 || rn == rm || rn == rd) .swapRegisters)

/-- MRS (R333). -/
def Restrict.mrs (sbo : BitVec 4) (rd : RegNo) (sbzHi sbzLo : BitVec 4) : Option Unpredictable :=
  (((Restrict.ones sbo).or (Restrict.zero sbzHi)).or (Restrict.zero sbzLo)).or (Restrict.when (rd == 15) .statusR15)

/-- MSR with a register (R335). -/
def Restrict.msrReg (sbo sbz : BitVec 4) (rm : RegNo) : Option Unpredictable :=
  ((Restrict.ones sbo).or (Restrict.zero sbz)).or (Restrict.when (rm == 15) .statusR15)

/-- BLX with a register (spec/41_branch.md R165). -/
def Restrict.blxReg (sbo : BitVec 12) (rm : RegNo) : Option Unpredictable :=
  (Restrict.ones sbo).or (Restrict.when (rm == 15) .blxR15)

/-- BKPT (spec/30_encoding.md R112). -/
def Restrict.bkpt (c : Cond) : Option Unpredictable := Restrict.when (c != .al) .bkptCondition

/-- The registers of a transfer with write-back (spec/45_load_store_word_byte.md R267, spec/46_load_store_halfword_signed.md R296). -/
def Restrict.writeBackClash (wb : Bool) (rn rd : RegNo) : Bool := wb && (rn == 15 || rd == rn)

/-- The single transfers with an immediate offset (R267); `noPc` for the byte and T forms, `wb` for a form with write-back. -/
def Restrict.singleImm (noPc wb : Bool) (rn rd : RegNo) : Option Unpredictable :=
  Restrict.when (Restrict.writeBackClash wb rn rd || (noPc && rd == 15)) .singleTransferRegisters

/-- The single transfers with a register offset (R267). -/
def Restrict.singleReg (noPc wb : Bool) (rn rd rm : RegNo) : Option Unpredictable :=
  (Restrict.singleImm noPc wb rn rd).or (Restrict.when (rm == 15 || (wb && rm == rn)) .singleTransferRegisters)

/-- The halfword and signed transfers with an immediate offset (R291, R296). -/
def Restrict.halfwordImm (p w : Bool) (rn rd : RegNo) : Option Unpredictable :=
  Restrict.when ((!p && w) || rd == 15 || Restrict.writeBackClash (!p || w) rn rd) .halfwordRegisters

/-- The halfword and signed transfers with a register offset (R291, R296). -/
def Restrict.halfwordReg (p w : Bool) (rn rd : RegNo) (sbz : BitVec 4) (rm : RegNo) : Option Unpredictable :=
  ((Restrict.zero sbz).or (Restrict.halfwordImm p w rn rd)).or
    (Restrict.when (rm == 15 || ((!p || w) && rm == rn)) .halfwordRegisters)

/-- Whether the register number `r` is in a list. -/
def Restrict.inList {n : Nat} (list : BitVec n) (r : RegNo) : Bool := list.getLsbD r.toNat

/-- Whether a register with a lower number than `r` is in a list. -/
def Restrict.lowerInList {n : Nat} (list : BitVec n) (r : RegNo) : Bool := (List.range r.toNat).any fun i => list.getLsbD i

/-- LDM (1) (spec/47_load_store_multiple.md R318). -/
def Restrict.ldm (w : Bool) (rn : RegNo) (list : BitVec 16) : Option Unpredictable :=
  Restrict.when (list == 0 || rn == 15 || (w && Restrict.inList list rn)) .multipleRegisters

/-- STM (1) (R318). -/
def Restrict.stm (w : Bool) (rn : RegNo) (list : BitVec 16) : Option Unpredictable :=
  Restrict.when (list == 0 || rn == 15 || (w && Restrict.inList list rn && Restrict.lowerInList list rn)) .multipleRegisters

/-- LDM (2) and STM (2) (R315, R317, R318). -/
def Restrict.multipleUser {n : Nat} (w : Bool) (rn : RegNo) (list : BitVec n) : Option Unpredictable :=
  (Restrict.when (list == 0 || rn == 15) .multipleRegisters).or (Restrict.when w .userBankForm)

/-- LDM (3), whose list always holds r15 (R316, R318). -/
def Restrict.ldmReturn (w : Bool) (rn : RegNo) (list : BitVec 15) : Option Unpredictable :=
  Restrict.when (rn == 15 || (w && Restrict.inList list rn)) .multipleRegisters

/-- LDC and STC (spec/49_coprocessor_and_undefined.md R353). -/
def Restrict.cpTransfer (wb : Bool) (rn : RegNo) : Option Unpredictable := Restrict.when (wb && rn == 15) .coprocessorBase

/-- The restriction of each instruction. -/
def restriction : Instr → Option Unpredictable
  | .andImm _ _ _ _ _ _ => none
  | .andShiftImm _ _ _ _ _ _ _ => none
  | .andShiftReg _ _ rn rd rs _ rm => Restrict.shiftReg 0 [rn, rd, rs, rm]
  | .eorImm _ _ _ _ _ _ => none
  | .eorShiftImm _ _ _ _ _ _ _ => none
  | .eorShiftReg _ _ rn rd rs _ rm => Restrict.shiftReg 0 [rn, rd, rs, rm]
  | .subImm _ _ _ _ _ _ => none
  | .subShiftImm _ _ _ _ _ _ _ => none
  | .subShiftReg _ _ rn rd rs _ rm => Restrict.shiftReg 0 [rn, rd, rs, rm]
  | .rsbImm _ _ _ _ _ _ => none
  | .rsbShiftImm _ _ _ _ _ _ _ => none
  | .rsbShiftReg _ _ rn rd rs _ rm => Restrict.shiftReg 0 [rn, rd, rs, rm]
  | .addImm _ _ _ _ _ _ => none
  | .addShiftImm _ _ _ _ _ _ _ => none
  | .addShiftReg _ _ rn rd rs _ rm => Restrict.shiftReg 0 [rn, rd, rs, rm]
  | .adcImm _ _ _ _ _ _ => none
  | .adcShiftImm _ _ _ _ _ _ _ => none
  | .adcShiftReg _ _ rn rd rs _ rm => Restrict.shiftReg 0 [rn, rd, rs, rm]
  | .sbcImm _ _ _ _ _ _ => none
  | .sbcShiftImm _ _ _ _ _ _ _ => none
  | .sbcShiftReg _ _ rn rd rs _ rm => Restrict.shiftReg 0 [rn, rd, rs, rm]
  | .rscImm _ _ _ _ _ _ => none
  | .rscShiftImm _ _ _ _ _ _ _ => none
  | .rscShiftReg _ _ rn rd rs _ rm => Restrict.shiftReg 0 [rn, rd, rs, rm]
  | .tstImm _ _ sbz _ _ => Restrict.zero sbz
  | .tstShiftImm _ _ sbz _ _ _ => Restrict.zero sbz
  | .tstShiftReg _ rn sbz rs _ rm => Restrict.shiftReg sbz [rn, rs, rm]
  | .teqImm _ _ sbz _ _ => Restrict.zero sbz
  | .teqShiftImm _ _ sbz _ _ _ => Restrict.zero sbz
  | .teqShiftReg _ rn sbz rs _ rm => Restrict.shiftReg sbz [rn, rs, rm]
  | .cmpImm _ _ sbz _ _ => Restrict.zero sbz
  | .cmpShiftImm _ _ sbz _ _ _ => Restrict.zero sbz
  | .cmpShiftReg _ rn sbz rs _ rm => Restrict.shiftReg sbz [rn, rs, rm]
  | .cmnImm _ _ sbz _ _ => Restrict.zero sbz
  | .cmnShiftImm _ _ sbz _ _ _ => Restrict.zero sbz
  | .cmnShiftReg _ rn sbz rs _ rm => Restrict.shiftReg sbz [rn, rs, rm]
  | .orrImm _ _ _ _ _ _ => none
  | .orrShiftImm _ _ _ _ _ _ _ => none
  | .orrShiftReg _ _ rn rd rs _ rm => Restrict.shiftReg 0 [rn, rd, rs, rm]
  | .movImm _ _ sbz _ _ _ => Restrict.zero sbz
  | .movShiftImm _ _ sbz _ _ _ _ => Restrict.zero sbz
  | .movShiftReg _ _ sbz rd rs _ rm => Restrict.shiftReg sbz [rd, rs, rm]
  | .bicImm _ _ _ _ _ _ => none
  | .bicShiftImm _ _ _ _ _ _ _ => none
  | .bicShiftReg _ _ rn rd rs _ rm => Restrict.shiftReg 0 [rn, rd, rs, rm]
  | .mvnImm _ _ sbz _ _ _ => Restrict.zero sbz
  | .mvnShiftImm _ _ sbz _ _ _ _ => Restrict.zero sbz
  | .mvnShiftReg _ _ sbz rd rs _ rm => Restrict.shiftReg sbz [rd, rs, rm]
  | .mul _ _ rd sbz rs rm => Restrict.mul rd sbz rs rm
  | .mla _ _ rd rn rs rm => Restrict.mla rd rn rs rm
  | .umull _ _ rdHi rdLo rs rm => Restrict.mulLong rdHi rdLo rs rm
  | .umlal _ _ rdHi rdLo rs rm => Restrict.mulLong rdHi rdLo rs rm
  | .smull _ _ rdHi rdLo rs rm => Restrict.mulLong rdHi rdLo rs rm
  | .smlal _ _ rdHi rdLo rs rm => Restrict.mulLong rdHi rdLo rs rm
  | .clz _ sboHi rd sboLo rm => Restrict.clz sboHi rd sboLo rm
  | .swp _ rn rd sbz rm => Restrict.swap rn rd sbz rm
  | .swpb _ rn rd sbz rm => Restrict.swap rn rd sbz rm
  | .mrs _ _ sbo rd sbzHi sbzLo => Restrict.mrs sbo rd sbzHi sbzLo
  | .msrReg _ _ _ sbo sbz rm => Restrict.msrReg sbo sbz rm
  | .msrImm _ _ _ sbo _ _ => Restrict.ones sbo
  | .bx _ sbo _ => Restrict.ones sbo
  | .blxReg _ sbo rm => Restrict.blxReg sbo rm
  | .bkpt c _ _ => Restrict.bkpt c
  | .strhImm _ p _ w rn rd _ _ => Restrict.halfwordImm p w rn rd
  | .strhReg _ p _ w rn rd sbz rm => Restrict.halfwordReg p w rn rd sbz rm
  | .ldrhImm _ p _ w rn rd _ _ => Restrict.halfwordImm p w rn rd
  | .ldrhReg _ p _ w rn rd sbz rm => Restrict.halfwordReg p w rn rd sbz rm
  | .ldrsbImm _ p _ w rn rd _ _ => Restrict.halfwordImm p w rn rd
  | .ldrsbReg _ p _ w rn rd sbz rm => Restrict.halfwordReg p w rn rd sbz rm
  | .ldrshImm _ p _ w rn rd _ _ => Restrict.halfwordImm p w rn rd
  | .ldrshReg _ p _ w rn rd sbz rm => Restrict.halfwordReg p w rn rd sbz rm
  | .ldrImm _ _ w rn rd _ => Restrict.singleImm false w rn rd
  | .ldrImmPost _ _ rn rd _ => Restrict.singleImm false true rn rd
  | .ldrtImm _ _ rn rd _ => Restrict.singleImm true true rn rd
  | .ldrReg _ _ w rn rd _ _ rm => Restrict.singleReg false w rn rd rm
  | .ldrRegPost _ _ rn rd _ _ rm => Restrict.singleReg false true rn rd rm
  | .ldrtReg _ _ rn rd _ _ rm => Restrict.singleReg true true rn rd rm
  | .strImm _ _ w rn rd _ => Restrict.singleImm false w rn rd
  | .strImmPost _ _ rn rd _ => Restrict.singleImm false true rn rd
  | .strtImm _ _ rn rd _ => Restrict.singleImm true true rn rd
  | .strReg _ _ w rn rd _ _ rm => Restrict.singleReg false w rn rd rm
  | .strRegPost _ _ rn rd _ _ rm => Restrict.singleReg false true rn rd rm
  | .strtReg _ _ rn rd _ _ rm => Restrict.singleReg true true rn rd rm
  | .ldrbImm _ _ w rn rd _ => Restrict.singleImm true w rn rd
  | .ldrbImmPost _ _ rn rd _ => Restrict.singleImm true true rn rd
  | .ldrbtImm _ _ rn rd _ => Restrict.singleImm true true rn rd
  | .ldrbReg _ _ w rn rd _ _ rm => Restrict.singleReg true w rn rd rm
  | .ldrbRegPost _ _ rn rd _ _ rm => Restrict.singleReg true true rn rd rm
  | .ldrbtReg _ _ rn rd _ _ rm => Restrict.singleReg true true rn rd rm
  | .strbImm _ _ w rn rd _ => Restrict.singleImm true w rn rd
  | .strbImmPost _ _ rn rd _ => Restrict.singleImm true true rn rd
  | .strbtImm _ _ rn rd _ => Restrict.singleImm true true rn rd
  | .strbReg _ _ w rn rd _ _ rm => Restrict.singleReg true w rn rd rm
  | .strbRegPost _ _ rn rd _ _ rm => Restrict.singleReg true true rn rd rm
  | .strbtReg _ _ rn rd _ _ rm => Restrict.singleReg true true rn rd rm
  | .ldm _ _ _ w rn list => Restrict.ldm w rn list
  | .ldmUser _ _ _ w rn list => Restrict.multipleUser w rn list
  | .ldmReturn _ _ _ w rn list => Restrict.ldmReturn w rn list
  | .stm _ _ _ w rn list => Restrict.stm w rn list
  | .stmUser _ _ _ w rn list => Restrict.multipleUser w rn list
  | .b _ _ => none
  | .bl _ _ => none
  | .blxImm _ _ => none
  | .ldcOffset _ _ _ w rn _ _ _ => Restrict.cpTransfer w rn
  | .ldcPostUp _ _ w rn _ _ _ => Restrict.cpTransfer w rn
  | .ldcPostDown _ _ rn _ _ _ => Restrict.cpTransfer true rn
  | .stcOffset _ _ _ w rn _ _ _ => Restrict.cpTransfer w rn
  | .stcPostUp _ _ w rn _ _ _ => Restrict.cpTransfer w rn
  | .stcPostDown _ _ rn _ _ _ => Restrict.cpTransfer true rn
  | .cdp _ _ _ _ _ _ _ => none
  | .mcr _ _ _ _ _ _ _ => none
  | .mrc _ _ _ _ _ _ _ => none
  | .swi _ _ => none

/-- The condition of an instruction; BLX (immediate) has none (spec/30_encoding.md R101, R129). -/
def condition : Instr → Option Cond
  | .andImm c _ _ _ _ _ => some c
  | .andShiftImm c _ _ _ _ _ _ => some c
  | .andShiftReg c _ _ _ _ _ _ => some c
  | .eorImm c _ _ _ _ _ => some c
  | .eorShiftImm c _ _ _ _ _ _ => some c
  | .eorShiftReg c _ _ _ _ _ _ => some c
  | .subImm c _ _ _ _ _ => some c
  | .subShiftImm c _ _ _ _ _ _ => some c
  | .subShiftReg c _ _ _ _ _ _ => some c
  | .rsbImm c _ _ _ _ _ => some c
  | .rsbShiftImm c _ _ _ _ _ _ => some c
  | .rsbShiftReg c _ _ _ _ _ _ => some c
  | .addImm c _ _ _ _ _ => some c
  | .addShiftImm c _ _ _ _ _ _ => some c
  | .addShiftReg c _ _ _ _ _ _ => some c
  | .adcImm c _ _ _ _ _ => some c
  | .adcShiftImm c _ _ _ _ _ _ => some c
  | .adcShiftReg c _ _ _ _ _ _ => some c
  | .sbcImm c _ _ _ _ _ => some c
  | .sbcShiftImm c _ _ _ _ _ _ => some c
  | .sbcShiftReg c _ _ _ _ _ _ => some c
  | .rscImm c _ _ _ _ _ => some c
  | .rscShiftImm c _ _ _ _ _ _ => some c
  | .rscShiftReg c _ _ _ _ _ _ => some c
  | .tstImm c _ _ _ _ => some c
  | .tstShiftImm c _ _ _ _ _ => some c
  | .tstShiftReg c _ _ _ _ _ => some c
  | .teqImm c _ _ _ _ => some c
  | .teqShiftImm c _ _ _ _ _ => some c
  | .teqShiftReg c _ _ _ _ _ => some c
  | .cmpImm c _ _ _ _ => some c
  | .cmpShiftImm c _ _ _ _ _ => some c
  | .cmpShiftReg c _ _ _ _ _ => some c
  | .cmnImm c _ _ _ _ => some c
  | .cmnShiftImm c _ _ _ _ _ => some c
  | .cmnShiftReg c _ _ _ _ _ => some c
  | .orrImm c _ _ _ _ _ => some c
  | .orrShiftImm c _ _ _ _ _ _ => some c
  | .orrShiftReg c _ _ _ _ _ _ => some c
  | .movImm c _ _ _ _ _ => some c
  | .movShiftImm c _ _ _ _ _ _ => some c
  | .movShiftReg c _ _ _ _ _ _ => some c
  | .bicImm c _ _ _ _ _ => some c
  | .bicShiftImm c _ _ _ _ _ _ => some c
  | .bicShiftReg c _ _ _ _ _ _ => some c
  | .mvnImm c _ _ _ _ _ => some c
  | .mvnShiftImm c _ _ _ _ _ _ => some c
  | .mvnShiftReg c _ _ _ _ _ _ => some c
  | .mul c _ _ _ _ _ => some c
  | .mla c _ _ _ _ _ => some c
  | .umull c _ _ _ _ _ => some c
  | .umlal c _ _ _ _ _ => some c
  | .smull c _ _ _ _ _ => some c
  | .smlal c _ _ _ _ _ => some c
  | .clz c _ _ _ _ => some c
  | .swp c _ _ _ _ => some c
  | .swpb c _ _ _ _ => some c
  | .mrs c _ _ _ _ _ => some c
  | .msrReg c _ _ _ _ _ => some c
  | .msrImm c _ _ _ _ _ => some c
  | .bx c _ _ => some c
  | .blxReg c _ _ => some c
  | .bkpt c _ _ => some c
  | .strhImm c _ _ _ _ _ _ _ => some c
  | .strhReg c _ _ _ _ _ _ _ => some c
  | .ldrhImm c _ _ _ _ _ _ _ => some c
  | .ldrhReg c _ _ _ _ _ _ _ => some c
  | .ldrsbImm c _ _ _ _ _ _ _ => some c
  | .ldrsbReg c _ _ _ _ _ _ _ => some c
  | .ldrshImm c _ _ _ _ _ _ _ => some c
  | .ldrshReg c _ _ _ _ _ _ _ => some c
  | .ldrImm c _ _ _ _ _ => some c
  | .ldrImmPost c _ _ _ _ => some c
  | .ldrtImm c _ _ _ _ => some c
  | .ldrReg c _ _ _ _ _ _ _ => some c
  | .ldrRegPost c _ _ _ _ _ _ => some c
  | .ldrtReg c _ _ _ _ _ _ => some c
  | .strImm c _ _ _ _ _ => some c
  | .strImmPost c _ _ _ _ => some c
  | .strtImm c _ _ _ _ => some c
  | .strReg c _ _ _ _ _ _ _ => some c
  | .strRegPost c _ _ _ _ _ _ => some c
  | .strtReg c _ _ _ _ _ _ => some c
  | .ldrbImm c _ _ _ _ _ => some c
  | .ldrbImmPost c _ _ _ _ => some c
  | .ldrbtImm c _ _ _ _ => some c
  | .ldrbReg c _ _ _ _ _ _ _ => some c
  | .ldrbRegPost c _ _ _ _ _ _ => some c
  | .ldrbtReg c _ _ _ _ _ _ => some c
  | .strbImm c _ _ _ _ _ => some c
  | .strbImmPost c _ _ _ _ => some c
  | .strbtImm c _ _ _ _ => some c
  | .strbReg c _ _ _ _ _ _ _ => some c
  | .strbRegPost c _ _ _ _ _ _ => some c
  | .strbtReg c _ _ _ _ _ _ => some c
  | .ldm c _ _ _ _ _ => some c
  | .ldmUser c _ _ _ _ _ => some c
  | .ldmReturn c _ _ _ _ _ => some c
  | .stm c _ _ _ _ _ => some c
  | .stmUser c _ _ _ _ _ => some c
  | .b c _ => some c
  | .bl c _ => some c
  | .blxImm _ _ => none
  | .ldcOffset c _ _ _ _ _ _ _ => some c
  | .ldcPostUp c _ _ _ _ _ _ => some c
  | .ldcPostDown c _ _ _ _ _ => some c
  | .stcOffset c _ _ _ _ _ _ _ => some c
  | .stcPostUp c _ _ _ _ _ _ => some c
  | .stcPostDown c _ _ _ _ _ => some c
  | .cdp c _ _ _ _ _ _ => some c
  | .mcr c _ _ _ _ _ _ => some c
  | .mrc c _ _ _ _ _ _ => some c
  | .swi c _ => some c

/-- Whether the processor has the instruction (the `requires` of spec/30_encoding.md R132; spec/41_branch.md R167,
spec/44_multiply_clz.md R250). BLX (immediate) is no matter of presence: before v5T condition 1111 never executes (R129). The
coprocessor instructions ask the coprocessors themselves (spec/49_coprocessor_and_undefined.md R351). -/
def present (cfg : Config) : Instr → Bool
  | .andImm _ _ _ _ _ _ => true
  | .andShiftImm _ _ _ _ _ _ _ => true
  | .andShiftReg _ _ _ _ _ _ _ => true
  | .eorImm _ _ _ _ _ _ => true
  | .eorShiftImm _ _ _ _ _ _ _ => true
  | .eorShiftReg _ _ _ _ _ _ _ => true
  | .subImm _ _ _ _ _ _ => true
  | .subShiftImm _ _ _ _ _ _ _ => true
  | .subShiftReg _ _ _ _ _ _ _ => true
  | .rsbImm _ _ _ _ _ _ => true
  | .rsbShiftImm _ _ _ _ _ _ _ => true
  | .rsbShiftReg _ _ _ _ _ _ _ => true
  | .addImm _ _ _ _ _ _ => true
  | .addShiftImm _ _ _ _ _ _ _ => true
  | .addShiftReg _ _ _ _ _ _ _ => true
  | .adcImm _ _ _ _ _ _ => true
  | .adcShiftImm _ _ _ _ _ _ _ => true
  | .adcShiftReg _ _ _ _ _ _ _ => true
  | .sbcImm _ _ _ _ _ _ => true
  | .sbcShiftImm _ _ _ _ _ _ _ => true
  | .sbcShiftReg _ _ _ _ _ _ _ => true
  | .rscImm _ _ _ _ _ _ => true
  | .rscShiftImm _ _ _ _ _ _ _ => true
  | .rscShiftReg _ _ _ _ _ _ _ => true
  | .tstImm _ _ _ _ _ => true
  | .tstShiftImm _ _ _ _ _ _ => true
  | .tstShiftReg _ _ _ _ _ _ => true
  | .teqImm _ _ _ _ _ => true
  | .teqShiftImm _ _ _ _ _ _ => true
  | .teqShiftReg _ _ _ _ _ _ => true
  | .cmpImm _ _ _ _ _ => true
  | .cmpShiftImm _ _ _ _ _ _ => true
  | .cmpShiftReg _ _ _ _ _ _ => true
  | .cmnImm _ _ _ _ _ => true
  | .cmnShiftImm _ _ _ _ _ _ => true
  | .cmnShiftReg _ _ _ _ _ _ => true
  | .orrImm _ _ _ _ _ _ => true
  | .orrShiftImm _ _ _ _ _ _ _ => true
  | .orrShiftReg _ _ _ _ _ _ _ => true
  | .movImm _ _ _ _ _ _ => true
  | .movShiftImm _ _ _ _ _ _ _ => true
  | .movShiftReg _ _ _ _ _ _ _ => true
  | .bicImm _ _ _ _ _ _ => true
  | .bicShiftImm _ _ _ _ _ _ _ => true
  | .bicShiftReg _ _ _ _ _ _ _ => true
  | .mvnImm _ _ _ _ _ _ => true
  | .mvnShiftImm _ _ _ _ _ _ _ => true
  | .mvnShiftReg _ _ _ _ _ _ _ => true
  | .mul _ _ _ _ _ _ => true
  | .mla _ _ _ _ _ _ => true
  | .umull _ _ _ _ _ _ => cfg.hasLongMul
  | .umlal _ _ _ _ _ _ => cfg.hasLongMul
  | .smull _ _ _ _ _ _ => cfg.hasLongMul
  | .smlal _ _ _ _ _ _ => cfg.hasLongMul
  | .clz _ _ _ _ _ => cfg.archV5T
  | .swp _ _ _ _ _ => true
  | .swpb _ _ _ _ _ => true
  | .mrs _ _ _ _ _ _ => true
  | .msrReg _ _ _ _ _ _ => true
  | .msrImm _ _ _ _ _ _ => true
  | .bx _ _ _ => cfg.hasThumb
  | .blxReg _ _ _ => cfg.archV5T
  | .bkpt _ _ _ => cfg.archV5T
  | .strhImm _ _ _ _ _ _ _ _ => true
  | .strhReg _ _ _ _ _ _ _ _ => true
  | .ldrhImm _ _ _ _ _ _ _ _ => true
  | .ldrhReg _ _ _ _ _ _ _ _ => true
  | .ldrsbImm _ _ _ _ _ _ _ _ => true
  | .ldrsbReg _ _ _ _ _ _ _ _ => true
  | .ldrshImm _ _ _ _ _ _ _ _ => true
  | .ldrshReg _ _ _ _ _ _ _ _ => true
  | .ldrImm _ _ _ _ _ _ => true
  | .ldrImmPost _ _ _ _ _ => true
  | .ldrtImm _ _ _ _ _ => true
  | .ldrReg _ _ _ _ _ _ _ _ => true
  | .ldrRegPost _ _ _ _ _ _ _ => true
  | .ldrtReg _ _ _ _ _ _ _ => true
  | .strImm _ _ _ _ _ _ => true
  | .strImmPost _ _ _ _ _ => true
  | .strtImm _ _ _ _ _ => true
  | .strReg _ _ _ _ _ _ _ _ => true
  | .strRegPost _ _ _ _ _ _ _ => true
  | .strtReg _ _ _ _ _ _ _ => true
  | .ldrbImm _ _ _ _ _ _ => true
  | .ldrbImmPost _ _ _ _ _ => true
  | .ldrbtImm _ _ _ _ _ => true
  | .ldrbReg _ _ _ _ _ _ _ _ => true
  | .ldrbRegPost _ _ _ _ _ _ _ => true
  | .ldrbtReg _ _ _ _ _ _ _ => true
  | .strbImm _ _ _ _ _ _ => true
  | .strbImmPost _ _ _ _ _ => true
  | .strbtImm _ _ _ _ _ => true
  | .strbReg _ _ _ _ _ _ _ _ => true
  | .strbRegPost _ _ _ _ _ _ _ => true
  | .strbtReg _ _ _ _ _ _ _ => true
  | .ldm _ _ _ _ _ _ => true
  | .ldmUser _ _ _ _ _ _ => true
  | .ldmReturn _ _ _ _ _ _ => true
  | .stm _ _ _ _ _ _ => true
  | .stmUser _ _ _ _ _ _ => true
  | .b _ _ => true
  | .bl _ _ => true
  | .blxImm _ _ => true
  | .ldcOffset _ _ _ _ _ _ _ _ => true
  | .ldcPostUp _ _ _ _ _ _ _ => true
  | .ldcPostDown _ _ _ _ _ _ => true
  | .stcOffset _ _ _ _ _ _ _ _ => true
  | .stcPostUp _ _ _ _ _ _ _ => true
  | .stcPostDown _ _ _ _ _ _ => true
  | .cdp _ _ _ _ _ _ _ => true
  | .mcr _ _ _ _ _ _ _ => true
  | .mrc _ _ _ _ _ _ _ => true
  | .swi _ _ => true

/-- The registers an instruction accesses, those it names in its fields and the link register it writes
(spec/70_reset_and_hazards.md R471, spec/10_state.md R22). -/
def named : Instr → List RegNo
  | .andImm _ _ rn rd _ _ => [rn, rd]
  | .andShiftImm _ _ rn rd _ _ rm => [rn, rd, rm]
  | .andShiftReg _ _ rn rd rs _ rm => [rn, rd, rs, rm]
  | .eorImm _ _ rn rd _ _ => [rn, rd]
  | .eorShiftImm _ _ rn rd _ _ rm => [rn, rd, rm]
  | .eorShiftReg _ _ rn rd rs _ rm => [rn, rd, rs, rm]
  | .subImm _ _ rn rd _ _ => [rn, rd]
  | .subShiftImm _ _ rn rd _ _ rm => [rn, rd, rm]
  | .subShiftReg _ _ rn rd rs _ rm => [rn, rd, rs, rm]
  | .rsbImm _ _ rn rd _ _ => [rn, rd]
  | .rsbShiftImm _ _ rn rd _ _ rm => [rn, rd, rm]
  | .rsbShiftReg _ _ rn rd rs _ rm => [rn, rd, rs, rm]
  | .addImm _ _ rn rd _ _ => [rn, rd]
  | .addShiftImm _ _ rn rd _ _ rm => [rn, rd, rm]
  | .addShiftReg _ _ rn rd rs _ rm => [rn, rd, rs, rm]
  | .adcImm _ _ rn rd _ _ => [rn, rd]
  | .adcShiftImm _ _ rn rd _ _ rm => [rn, rd, rm]
  | .adcShiftReg _ _ rn rd rs _ rm => [rn, rd, rs, rm]
  | .sbcImm _ _ rn rd _ _ => [rn, rd]
  | .sbcShiftImm _ _ rn rd _ _ rm => [rn, rd, rm]
  | .sbcShiftReg _ _ rn rd rs _ rm => [rn, rd, rs, rm]
  | .rscImm _ _ rn rd _ _ => [rn, rd]
  | .rscShiftImm _ _ rn rd _ _ rm => [rn, rd, rm]
  | .rscShiftReg _ _ rn rd rs _ rm => [rn, rd, rs, rm]
  | .tstImm _ rn _ _ _ => [rn]
  | .tstShiftImm _ rn _ _ _ rm => [rn, rm]
  | .tstShiftReg _ rn _ rs _ rm => [rn, rs, rm]
  | .teqImm _ rn _ _ _ => [rn]
  | .teqShiftImm _ rn _ _ _ rm => [rn, rm]
  | .teqShiftReg _ rn _ rs _ rm => [rn, rs, rm]
  | .cmpImm _ rn _ _ _ => [rn]
  | .cmpShiftImm _ rn _ _ _ rm => [rn, rm]
  | .cmpShiftReg _ rn _ rs _ rm => [rn, rs, rm]
  | .cmnImm _ rn _ _ _ => [rn]
  | .cmnShiftImm _ rn _ _ _ rm => [rn, rm]
  | .cmnShiftReg _ rn _ rs _ rm => [rn, rs, rm]
  | .orrImm _ _ rn rd _ _ => [rn, rd]
  | .orrShiftImm _ _ rn rd _ _ rm => [rn, rd, rm]
  | .orrShiftReg _ _ rn rd rs _ rm => [rn, rd, rs, rm]
  | .movImm _ _ _ rd _ _ => [rd]
  | .movShiftImm _ _ _ rd _ _ rm => [rd, rm]
  | .movShiftReg _ _ _ rd rs _ rm => [rd, rs, rm]
  | .bicImm _ _ rn rd _ _ => [rn, rd]
  | .bicShiftImm _ _ rn rd _ _ rm => [rn, rd, rm]
  | .bicShiftReg _ _ rn rd rs _ rm => [rn, rd, rs, rm]
  | .mvnImm _ _ _ rd _ _ => [rd]
  | .mvnShiftImm _ _ _ rd _ _ rm => [rd, rm]
  | .mvnShiftReg _ _ _ rd rs _ rm => [rd, rs, rm]
  | .mul _ _ rd _ rs rm => [rd, rs, rm]
  | .mla _ _ rd rn rs rm => [rd, rn, rs, rm]
  | .umull _ _ rdHi rdLo rs rm => [rdHi, rdLo, rs, rm]
  | .umlal _ _ rdHi rdLo rs rm => [rdHi, rdLo, rs, rm]
  | .smull _ _ rdHi rdLo rs rm => [rdHi, rdLo, rs, rm]
  | .smlal _ _ rdHi rdLo rs rm => [rdHi, rdLo, rs, rm]
  | .clz _ _ rd _ rm => [rd, rm]
  | .swp _ rn rd _ rm => [rn, rd, rm]
  | .swpb _ rn rd _ rm => [rn, rd, rm]
  | .mrs _ _ _ rd _ _ => [rd]
  | .msrReg _ _ _ _ _ rm => [rm]
  | .msrImm _ _ _ _ _ _ => []
  | .bx _ _ rm => [rm]
  | .blxReg _ _ rm => [rm, 14]
  | .bkpt _ _ _ => []
  | .strhImm _ _ _ _ rn rd _ _ => [rn, rd]
  | .strhReg _ _ _ _ rn rd _ rm => [rn, rd, rm]
  | .ldrhImm _ _ _ _ rn rd _ _ => [rn, rd]
  | .ldrhReg _ _ _ _ rn rd _ rm => [rn, rd, rm]
  | .ldrsbImm _ _ _ _ rn rd _ _ => [rn, rd]
  | .ldrsbReg _ _ _ _ rn rd _ rm => [rn, rd, rm]
  | .ldrshImm _ _ _ _ rn rd _ _ => [rn, rd]
  | .ldrshReg _ _ _ _ rn rd _ rm => [rn, rd, rm]
  | .ldrImm _ _ _ rn rd _ => [rn, rd]
  | .ldrImmPost _ _ rn rd _ => [rn, rd]
  | .ldrtImm _ _ rn rd _ => [rn, rd]
  | .ldrReg _ _ _ rn rd _ _ rm => [rn, rd, rm]
  | .ldrRegPost _ _ rn rd _ _ rm => [rn, rd, rm]
  | .ldrtReg _ _ rn rd _ _ rm => [rn, rd, rm]
  | .strImm _ _ _ rn rd _ => [rn, rd]
  | .strImmPost _ _ rn rd _ => [rn, rd]
  | .strtImm _ _ rn rd _ => [rn, rd]
  | .strReg _ _ _ rn rd _ _ rm => [rn, rd, rm]
  | .strRegPost _ _ rn rd _ _ rm => [rn, rd, rm]
  | .strtReg _ _ rn rd _ _ rm => [rn, rd, rm]
  | .ldrbImm _ _ _ rn rd _ => [rn, rd]
  | .ldrbImmPost _ _ rn rd _ => [rn, rd]
  | .ldrbtImm _ _ rn rd _ => [rn, rd]
  | .ldrbReg _ _ _ rn rd _ _ rm => [rn, rd, rm]
  | .ldrbRegPost _ _ rn rd _ _ rm => [rn, rd, rm]
  | .ldrbtReg _ _ rn rd _ _ rm => [rn, rd, rm]
  | .strbImm _ _ _ rn rd _ => [rn, rd]
  | .strbImmPost _ _ rn rd _ => [rn, rd]
  | .strbtImm _ _ rn rd _ => [rn, rd]
  | .strbReg _ _ _ rn rd _ _ rm => [rn, rd, rm]
  | .strbRegPost _ _ rn rd _ _ rm => [rn, rd, rm]
  | .strbtReg _ _ rn rd _ _ rm => [rn, rd, rm]
  | .ldm _ _ _ _ rn list => rn :: listedRegs list
  | .ldmUser _ _ _ _ rn list => rn :: listedRegs list
  | .ldmReturn _ _ _ _ rn list => rn :: listedRegs list
  | .stm _ _ _ _ rn list => rn :: listedRegs list
  | .stmUser _ _ _ _ rn list => rn :: listedRegs list
  | .b _ _ => []
  | .bl _ _ => [14]
  | .blxImm _ _ => [14]
  | .ldcOffset _ _ _ _ rn _ _ _ => [rn]
  | .ldcPostUp _ _ _ rn _ _ _ => [rn]
  | .ldcPostDown _ _ rn _ _ _ => [rn]
  | .stcOffset _ _ _ _ rn _ _ _ => [rn]
  | .stcPostUp _ _ _ rn _ _ _ => [rn]
  | .stcPostDown _ _ rn _ _ _ => [rn]
  | .cdp _ _ _ _ _ _ _ => []
  | .mcr _ _ _ rd _ _ _ => [rd]
  | .mrc _ _ _ rd _ _ _ => [rd]
  | .swi _ _ => []

end Sys2Proof.Machine
end

