-- ==== Sys2Proof/Machine/Ops.lean ====
section
/-! DEFINITION. The named operations every meaning is written over: registers by bank, status registers, memory accesses with
aborts, taking an exception and returning from one, and the frame of an instruction (condition, stops, advance). -/

namespace Sys2Proof.Machine

/-- What a step or a meaning answers. -/
abbrev Result := Host.Outcome State Fault Refusal

/-- The step has no successor state: the case is UNPREDICTABLE (spec/00_scope.md R13). -/
def refuse (u : Unpredictable) : Result := .refused (.unpredictable u)

/-! ### Registers -/

/-- `Bank(i, m)` of spec/10_state.md R22. For r13 and r14 in a mode field that is no mode the spec gives no register; this
function gives the base bank there and `accessStop` refuses before it is used. -/
def bank (m : Option Mode) (r : RegNo) : PhysReg :=
  have hr : r.toNat < 16 := r.isLt
  if h8 : r.toNat < 8 then .usr ⟨r.toNat, by omega⟩
  else if h15 : r.toNat = 15 then .pc
  else
    match m with
    | some .fiq => .fiq ⟨r.toNat - 8, by omega⟩
    | some .irq => if h13 : r.toNat < 13 then .usr ⟨r.toNat, by omega⟩ else .irq ⟨r.toNat - 13, by omega⟩
    | some .supervisor => if h13 : r.toNat < 13 then .usr ⟨r.toNat, by omega⟩ else .svc ⟨r.toNat - 13, by omega⟩
    | some .abort => if h13 : r.toNat < 13 then .usr ⟨r.toNat, by omega⟩ else .abt ⟨r.toNat - 13, by omega⟩
    | some .undefined => if h13 : r.toNat < 13 then .usr ⟨r.toNat, by omega⟩ else .und ⟨r.toNat - 13, by omega⟩
    | some .user => .usr ⟨r.toNat, by omega⟩
    | some .system => .usr ⟨r.toNat, by omega⟩
    | none => .usr ⟨r.toNat, by omega⟩

/-- What a physical register holds. -/
def State.getPhys (s : State) : PhysReg → Word
  | .usr i => s.banks.usr[i]
  | .fiq i => s.banks.fiq[i]
  | .irq i => s.banks.irq[i]
  | .svc i => s.banks.svc[i]
  | .abt i => s.banks.abt[i]
  | .und i => s.banks.und[i]
  | .pc => s.pc

/-- Writes a physical register. -/
def State.setPhys (s : State) (q : PhysReg) (v : Word) : State :=
  match q with
  | .usr i => { s with banks := { s.banks with usr := s.banks.usr.set i v } }
  | .fiq i => { s with banks := { s.banks with fiq := s.banks.fiq.set i v } }
  | .irq i => { s with banks := { s.banks with irq := s.banks.irq.set i v } }
  | .svc i => { s with banks := { s.banks with svc := s.banks.svc.set i v } }
  | .abt i => { s with banks := { s.banks with abt := s.banks.abt.set i v } }
  | .und i => { s with banks := { s.banks with und := s.banks.und.set i v } }
  | .pc => { s with pc := v }

/-- The mode the machine is in, none when CPSR[4:0] is no mode (R35). -/
def State.mode (s : State) : Option Mode := Mode.ofBits (psrMode s.cpsr)

/-- `InAPrivilegedMode()` (spec/00_scope.md R14). -/
def State.privileged (s : State) : Bool := psrMode s.cpsr != 0b10000

/-- The physical register the current mode sees as `r` (R23). -/
def State.phys (s : State) (r : RegNo) : PhysReg := bank s.mode r

/-- `x[i]` (spec/00_scope.md R10, spec/10_state.md R29): r15 reads as the instruction's address plus 8. -/
def State.reg (s : State) (r : RegNo) : Word := if r = 15 then s.pc + 8 else s.getPhys (s.phys r)

/-- `x[i] <- v` (R10, R23). -/
def State.setReg (s : State) (r : RegNo) (v : Word) : State := s.setPhys (s.phys r) v

/-- The value stored for a register by STR, STM and MCR: r15 goes out as `pc + PC_STORE_OFFSET`
(spec/45_load_store_word_byte.md R269). `m` is the mode whose bank is read: the current one, or User for STM (2) (R317). -/
def State.storedReg (s : State) (m : Option Mode) (r : RegNo) : Word :=
  if r = 15 then s.pc + (match s.cfg.pcStoreOffset with | .eight => 8 | .twelve => 12) else s.getPhys (bank m r)

/-! ### Status registers -/

/-- The SPSR of the current mode, none in User and System mode (spec/10_state.md R37). -/
def State.currentSpsr (s : State) : Option Word :=
  match s.mode with
  | some .fiq => some s.spsr.fiq
  | some .irq => some s.spsr.irq
  | some .supervisor => some s.spsr.svc
  | some .abort => some s.spsr.abt
  | some .undefined => some s.spsr.und
  | _ => none

/-- Writes the SPSR of a mode; User and System have none. -/
def State.setSpsr (s : State) (m : Option Mode) (v : Word) : State :=
  match m with
  | some .fiq => { s with spsr := { s.spsr with fiq := v } }
  | some .irq => { s with spsr := { s.spsr with irq := v } }
  | some .supervisor => { s with spsr := { s.spsr with svc := v } }
  | some .abort => { s with spsr := { s.spsr with abt := v } }
  | some .undefined => { s with spsr := { s.spsr with und := v } }
  | _ => s

/-- A status word as the CPSR takes it: T is always 0 on a processor without Thumb support (R34). -/
def State.cpsrFrom (s : State) (p : Word) : Word := if s.cfg.hasThumb then p else psrWithT p false

/-- Writes the four condition flags from an operation (spec/43_data_processing.md R191). -/
def State.setAluFlags (s : State) (o : AluOut) : State := { s with cpsr := psrWithAlu s.cpsr o }

/-- Writes T (R34). -/
def State.setT (s : State) (t : Bool) : State := { s with cpsr := s.cpsrFrom (psrWithT s.cpsr t) }

/-! ### Exceptions -/

/-- The seven exceptions of spec/60_exceptions.md R401. -/
inductive ExceptionKind where
  | reset
  | undefined
  | softwareInterrupt
  | prefetchAbort
  | dataAbort
  | irq
  | fiq
deriving DecidableEq, Repr

/-- The mode an exception enters (R400). -/
def ExceptionKind.mode : ExceptionKind → Mode
  | .reset => .supervisor
  | .undefined => .undefined
  | .softwareInterrupt => .supervisor
  | .prefetchAbort => .abort
  | .dataAbort => .abort
  | .irq => .irq
  | .fiq => .fiq

/-- The offset of its vector (R400). -/
def ExceptionKind.offset : ExceptionKind → Word
  | .reset => 0x00
  | .undefined => 0x04
  | .softwareInterrupt => 0x08
  | .prefetchAbort => 0x0C
  | .dataAbort => 0x10
  | .irq => 0x18
  | .fiq => 0x1C

/-- Whether its entry masks FIQ (R410). -/
def ExceptionKind.masksFiq : ExceptionKind → Bool
  | .reset => true
  | .fiq => true
  | _ => false

/-- What is added to the pc to give the return link (R411). -/
def ExceptionKind.linkOffset : ExceptionKind → Word
  | .dataAbort => 8
  | _ => 4

/-- The address of the vector of an exception (R400). -/
def State.vector (s : State) (e : ExceptionKind) : Word := if s.cfg.highVectors then 0xFFFF0000 + e.offset else e.offset

/-- The entry procedure of R410 with a given return link and a given value for the SPSR. -/
def enterException (e : ExceptionKind) (link saved : Word) (s : State) : State :=
  let m := e.mode
  let s1 := (s.setPhys (bank (some m) 14) link).setSpsr (some m) saved
  { s1 with cpsr := psrOnEntry s.cpsr m e.masksFiq, pc := s.vector e, userBankWindow := false }

/-- `raise E` (R410, R411) for every exception but Reset: the link is the pc plus 4 or 8, the SPSR takes the CPSR. -/
def takeException (e : ExceptionKind) (s : State) : State := enterException e (s.pc + e.linkOffset) s.cpsr s

/-- Reset (R412): R14_svc and SPSR_svc hold no defined value afterwards: free values. Logs 3, 20. -/
def takeReset (s : State) : State :=
  enterException .reset (Config.drawWord s.draws) (Config.drawWord (s.draws + 1)) { s with draws := s.draws + 2 }

/-- A status word that may be restored: none when its mode field is no mode (R35). -/
def State.restorable (s : State) (p : Word) : Except Unpredictable Word :=
  match Mode.ofBits (psrMode p) with
  | none => .error .writesNonMode
  | some _ => .ok (s.cpsrFrom p)

/-- The SPSR as an exception return restores it (R450): User and System mode have none, and it must hold a mode. -/
def State.returnPsr (s : State) : Except Unpredictable Word :=
  match s.currentSpsr with
  | none => .error .noSpsr
  | some p => s.restorable p

/-! ### Ends of an instruction -/

/-- `pc <- pc + 4` (spec/10_state.md R28), refused where the sum wraps (U2). -/
def finish (s : State) : Result := if 0xFFFFFFFC ≤ s.pc.toNat then refuse .pastTop else .next { s with pc := s.pc + 4 }

/-- A data-processing result written to the pc without S (spec/43_data_processing.md R212). -/
def branchTo (v : Word) (s : State) : Result :=
  if v.extractLsb' 0 2 = 0b00#2 then .next { s with pc := v } else refuse .misalignedPcResult

/-- A data-processing result written to the pc with S: the exception return (R213). The result must be aligned when the state
returned to is ARM state (R27, D11; log 15). -/
def exceptionReturn (v : Word) (s : State) : Result :=
  match s.returnPsr with
  | .error u => refuse u
  | .ok p =>
    if psrT p || v.extractLsb' 0 2 = 0b00#2 then .next { s with pc := v, cpsr := p } else refuse .misalignedPcResult

/-- BX and BLX: T from bit 0 of the target, the pc from the rest (spec/41_branch.md R164, R165). -/
def branchExchange (target : Word) (s : State) : Result :=
  if target.extractLsb' 0 2 = 0b10#2 then refuse .branchTarget
  else .next { s.setT (target.getLsbD 0) with pc := target &&& 0xFFFFFFFE }

/-- A loaded word written to the pc (spec/45_load_store_word_byte.md R268, spec/47_load_store_multiple.md R312): from v5T on bit 0
goes to T and is cleared in the pc, before it bits 1:0 are cleared. -/
def loadPc (v : Word) (s : State) : State :=
  if s.cfg.archV5T then { s.setT (v.getLsbD 0) with pc := v &&& 0xFFFFFFFE } else { s with pc := v &&& 0xFFFFFFFC }

/-! ### The frame of an instruction -/

/-- A register access the model refuses: r13 or r14 in a mode field that is no mode (R22, U1), r8 to r14 right after an LDM of
the User bank (spec/70_reset_and_hazards.md R471, U21; log 13). `regs` are the registers the instruction names. -/
def accessStop (s : State) (regs : List RegNo) : Option Unpredictable :=
  if s.mode = none ∧ regs.any (fun r => r = 13 || r = 14) then some .illegalMode
  else if s.userBankWindow ∧ regs.any (fun r => 8 ≤ r.toNat && r.toNat ≤ 14) then some .bankedAfterUserLoad
  else none

/-- Whether an instruction executes: its condition passes (R145); BLX (immediate), which has none, executes from v5T on (R129). -/
def runs (i : Instr) (s : State) : Bool :=
  match condition i with
  | some c => conditionHolds c s.cpsr
  | none => s.cfg.archV5T

/-- Runs the body of an instruction unless one of its stops applies: a restriction of its operands (R13), a register access. -/
def checked (i : Instr) (s : State) (body : State → Result) : Result :=
  match restriction i with
  | some u => refuse u
  | none =>
    match accessStop s (named i) with
    | some u => refuse u
    | none => body { s with userBankWindow := false }

/-- An instruction that does not execute changes nothing but the pc (spec/40_execution_and_conditions.md R146). -/
def skip (s : State) : Result := finish { s with userBankWindow := false }

/-- The frame of an instruction (R141 steps 6 to 9): the condition, then whether the processor has the instruction
(spec/30_encoding.md R132), then its stops, then its body. -/
def guarded (i : Instr) (s : State) (body : State → Result) : Result :=
  if runs i s then
    if present s.cfg i then checked i s body else .next (takeException .undefined s)
  else skip s

/-! ### Memory accesses -/

/-- The number of bytes of an access. -/
def Width.bytes : Width → Nat
  | .byte => 1
  | .half => 2
  | .word => 4

/-- Whether a region makes this access abort (spec/20_memory.md R78). -/
def AbortRegion.hits (g : AbortRegion) (a : Word) (w : Width) (k : AccessKind) (priv : Bool) : Bool :=
  g.first ≤ a.toNat && a.toNat ≤ g.last && g.widths.contains w && g.kinds.contains k && (if priv then g.privileged else g.user)

/-- `MemAbort` (R78). Log 5. -/
def memAbort (cfg : Config) (a : Word) (w : Width) (k : AccessKind) (priv : Bool) : Bool :=
  cfg.aborts.any fun g => AbortRegion.hits g a w k priv

/-- Whether the platform declares the byte at `a` device space (R73). Log 6. -/
def isDevice (cfg : Config) (a : Nat) : Bool := cfg.devices.any fun g => g.first ≤ a && a ≤ g.last

/-- The address an access is made at (R62, R63, R67), none for an odd halfword address that the parameter refuses. -/
def accessAddress (cfg : Config) (w : Width) (a : Word) : Option Word :=
  match w with
  | .byte => some a
  | .half =>
    if a.getLsbD 0 then
      match cfg.halfwordMisaligned with
      | .refuse => none
      | .ignoreBit0 => some (a &&& 0xFFFFFFFE)
    else some a
  | .word => some (a &&& 0xFFFFFFFC)

/-- What an access answers: its value, the mark `Aborted` (spec/00_scope.md R11), or a case that is UNPREDICTABLE. -/
inductive Access (α : Type) where
  | done (v : α)
  | aborted
  | unpredictable (u : Unpredictable)
deriving DecidableEq, Repr

/-- The byte a data read finds at `a`: a device answers with a free value (R73). -/
def State.dataByte (s : State) (a : Nat) : Byte :=
  if isDevice s.cfg a then Config.deviceByte s.draws a else s.mem.read a

/-- The value of `n` bytes from `a` up, little-endian (R62). -/
def State.dataValue (s : State) (a : Nat) : Width → Word
  | .byte => (s.dataByte a).setWidth 32
  | .half => (s.dataByte (a + 1) ++ s.dataByte a).setWidth 32
  | .word => wordOfBytes (s.dataByte a) (s.dataByte (a + 1)) (s.dataByte (a + 2)) (s.dataByte (a + 3))

/-- Whether one of the bytes of an access is device space. -/
def touchesDevice (cfg : Config) (a : Nat) (w : Width) : Bool := (List.range (Width.bytes w)).any fun k => isDevice cfg (a + k)

/-- `MemRead` (R62): the zero-extended value and the state after the access; only a device read changes the state (log 6). -/
def memRead (w : Width) (addr : Word) (priv : Bool) (s : State) : Access (Word × State) :=
  match accessAddress s.cfg w addr with
  | none => .unpredictable .oddHalfword
  | some a =>
    if memAbort s.cfg a w .read priv then .aborted
    else .done (s.dataValue a.toNat w, if touchesDevice s.cfg a.toNat w then { s with draws := s.draws + 1 } else s)

/-- `MemWrite` (R63). -/
def memWrite (w : Width) (addr v : Word) (priv : Bool) (s : State) : Access State :=
  match accessAddress s.cfg w addr with
  | none => .unpredictable .oddHalfword
  | some a =>
    if memAbort s.cfg a w .write priv then .aborted
    else .done { s with mem := s.mem.writeBytes a.toNat v (Width.bytes w) }

/-- Whether two memories differ in the instruction word at `pc + 4` or `pc + 8` (spec/70_reset_and_hazards.md R472; log 14). -/
def pipelineChanged (pc : Word) (m m' : Memory) : Bool :=
  m.readWord (pc + 4).toNat != m'.readWord (pc + 4).toNat || m.readWord (pc + 8).toNat != m'.readWord (pc + 8).toNat

/-- Goes on after the stores of an instruction unless they changed one of the next two instruction words (R472, U22). -/
def afterStores (before after : State) (k : Result) : Result :=
  if pipelineChanged before.pc before.mem after.mem then refuse .storeIntoPipeline else k

/-- Base write-back (R261, R265). -/
def writeBack (t : Transfer) (rn : RegNo) (s : State) : State := if t.writeback then s.setReg rn t.target else s

/-- The base register of an aborted transfer, by `ABORT_MODEL` (R277, R435). -/
def abortBase (t : Transfer) (rn : RegNo) (s : State) : State :=
  match s.cfg.abortModel with
  | .baseRestored => s
  | .baseUpdated => writeBack t rn s

/-- A load (R262, R264, R292 to R295): an abort is taken with the destination untouched, otherwise the base is written back and
`k` uses the value. -/
def loadThen (w : Width) (priv : Bool) (t : Transfer) (rn : RegNo) (s : State) (k : Word → State → Result) : Result :=
  match memRead w t.address priv s with
  | .unpredictable u => refuse u
  | .aborted => .next (takeException .dataAbort (abortBase t rn s))
  | .done (v, s1) => k v (writeBack t rn s1)

/-- The word LDR and SWP give for an address (R65): the aligned word rotated right by 8 times the low two address bits. -/
def rotatedLoad (address v : Word) : Word := ror v (8 * (address.toNat % 4))

/-- A store (R263, R266, R293). -/
def storeThen (w : Width) (priv : Bool) (t : Transfer) (rn : RegNo) (v : Word) (s : State) : Result :=
  match memWrite w t.address v priv s with
  | .unpredictable u => refuse u
  | .aborted => .next (takeException .dataAbort (abortBase t rn s))
  | .done s1 => afterStores s s1 (finish (writeBack t rn s1))

/-- The instruction word at the pc, none for the mark `Aborted` (R64). -/
def fetch (s : State) : Option Word :=
  if memAbort s.cfg s.pc .word .fetch s.privileged then none else some (s.mem.readWord s.pc.toNat)

/-- Stores an instruction word where the next step fetches. -/
def placeWord (w : Word) (s : State) : State := { s with mem := s.mem.writeBytes s.pc.toNat w 4 }

end Sys2Proof.Machine
end

