-- ==== Sys2Proof/Machine/Branch.lean ====
section
/-! DEFINITION. The branches (spec/41_branch.md R160 to R167), SWI and BKPT (spec/42_swi_bkpt.md R180 to R182). -/

namespace Sys2Proof.Machine

/-- B (R161). -/
def execB (c : Cond) (imm : BitVec 24) (s : State) : Result :=
  guarded (.b c imm) s fun s => .next { s with pc := branchTarget s.pc imm }

/-- BL (R162). -/
def execBl (c : Cond) (imm : BitVec 24) (s : State) : Result :=
  guarded (.bl c imm) s fun s =>
    .next { s.setReg 14 (s.pc + 4) with pc := branchTarget s.pc imm }

/-- BLX (immediate) (R166): Thumb state; without Thumb support T stays 0 (log 17). -/
def execBlxImm (h : Bool) (imm : BitVec 24) (s : State) : Result :=
  guarded (.blxImm h imm) s fun s =>
    .next { (s.setReg 14 (s.pc + 4)).setT true with pc := branchTarget s.pc imm + (if h then 2 else 0) }

/-- BX (R164). -/
def execBx (c : Cond) (sbo : BitVec 12) (rm : RegNo) (s : State) : Result :=
  guarded (.bx c sbo rm) s fun s => branchExchange (s.reg rm) s

/-- BLX (register) (R165): the target is read before r14 is written. -/
def execBlxReg (c : Cond) (sbo : BitVec 12) (rm : RegNo) (s : State) : Result :=
  guarded (.blxReg c sbo rm) s fun s =>
    branchExchange (s.reg rm) (s.setReg 14 (s.pc + 4))

/-- SWI (R180). -/
def execSwi (c : Cond) (imm : BitVec 24) (s : State) : Result :=
  guarded (.swi c imm) s fun s => .next (takeException .softwareInterrupt s)

/-- BKPT (R182). -/
def execBkpt (c : Cond) (immH : BitVec 12) (immL : BitVec 4) (s : State) : Result :=
  guarded (.bkpt c immH immL) s fun s => .next (takeException .prefetchAbort s)

end Sys2Proof.Machine
end

