-- ==== Sys2Proof/Machine/Coprocessor.lean ====
section
/-! DEFINITION. The coprocessor instructions (spec/49_coprocessor_and_undefined.md R350 to R362). What a coprocessor answers is an input
of the machine, the list `cpReplies` (log 9); what passes to and from it is recorded in `cpSent`. -/

namespace Sys2Proof.Machine

/-- The answer of a coprocessor that is present to the word `w`: the next of the list, a free value when the list has ended. -/
def cpAnswer (cp : BitVec 4) (w : Word) (s : State) : CpReply × State :=
  match s.cpReplies with
  | r :: rs => (r, { s with cpReplies := rs })
  | [] => (Config.cpReply s.draws cp w, { s with draws := s.draws + 1 })

/-- Offers an instruction to coprocessor `cp` (R351, R357): Undefined Instruction when it is absent or declines, a step that leaves the
pc at the instruction while it is busy (log 10), the body once it accepts. -/
def offered (i : Instr) (cp : BitVec 4) (s : State) (body : Word → List Word → State → Result) : Result :=
  if runs i s then
    if s.cfg.coprocs.contains cp then
      match cpAnswer cp (encode i) s with
      | (.declines, s1) => .next (takeException .undefined s1)
      | (.busy, s1) => .next s1
      | (.accepts v vs, s1) => checked i s1 (body v vs)
    else .next (takeException .undefined s)
  else skip s

/-- Records what passed to or from a coprocessor. -/
def State.sent (s : State) (e : CpEvent) : State := { s with cpSent := e :: s.cpSent }

/-- The words of an LDC from number `k` on, `count` of them (R353, R362): up to the first that aborts. -/
def takeWords (cp : BitVec 4) (w : Word) : Nat → Nat → Word → State → Bool × State
  | 0, _, _, s => (false, s)
  | count + 1, k, a, s =>
    match memRead .word a s.privileged s with
    | .done (v, s1) => takeWords cp w count (k + 1) (a + 4) (s1.sent (.takeWord cp w k v))
    | _ => (true, s)

/-- The words of an STC from number `k` on (R354): up to the first that aborts. -/
def giveWords (cp : BitVec 4) (w : Word) : List Word → Nat → Word → State → Bool × State
  | [], _, _, s => (false, s)
  | v :: vs, k, a, s =>
    match memWrite .word a v s.privileged (s.sent (.giveWord cp w k v)) with
    | .done s1 => giveWords cp w vs (k + 1) (a + 4) s1
    | _ => (true, s.sent (.giveWord cp w k v))

/-- LDC (R353): `count` words, then the base. An abort leaves the base as R277 says (log 22). -/
def ldc (cp : BitVec 4) (w : Word) (count : Nat) (t : Transfer) (rn : RegNo) (s : State) : Result :=
  match takeWords cp w count 0 t.address s with
  | (true, s1) => .next (takeException .dataAbort (abortBase t rn s1))
  | (false, s1) => finish (writeBack t rn s1)

/-- STC (R354). -/
def stc (cp : BitVec 4) (w : Word) (words : List Word) (t : Transfer) (rn : RegNo) (s : State) : Result :=
  match giveWords cp w words 0 t.address s with
  | (true, s1) => afterStores s s1 (.next (takeException .dataAbort (abortBase t rn s1)))
  | (false, s1) => afterStores s s1 (finish (writeBack t rn s1))

/-- What MRC does with the word it gets (R355, R356): r15 stands for the condition flags. -/
def mrcResult (rd : RegNo) (v : Word) (s : State) : Result :=
  if rd = 15 then finish { s with cpsr := psrWithFlags s.cpsr (v.getLsbD 31) (v.getLsbD 30) (v.getLsbD 29) (v.getLsbD 28) }
  else finish (s.setReg rd v)

/-- LDC (R353), offset or pre-indexed. -/
def execLdcOffset (c : Cond) (u n w : Bool) (rn : RegNo) (crd cp : BitVec 4) (imm : BitVec 8) (s : State) : Result :=
  offered (.ldcOffset c u n w rn crd cp imm) cp s fun _ vs s =>
    ldc cp (encode (.ldcOffset c u n w rn crd cp imm)) (vs.length + 1) (cpTransfer true u w (s.reg rn) imm) rn s

/-- LDC (R353), post-indexed or unindexed, upwards. -/
def execLdcPostUp (c : Cond) (n w : Bool) (rn : RegNo) (crd cp : BitVec 4) (imm : BitVec 8) (s : State) : Result :=
  offered (.ldcPostUp c n w rn crd cp imm) cp s fun _ vs s =>
    ldc cp (encode (.ldcPostUp c n w rn crd cp imm)) (vs.length + 1) (cpTransfer false true w (s.reg rn) imm) rn s

/-- LDC (R353), post-indexed, downwards. -/
def execLdcPostDown (c : Cond) (n : Bool) (rn : RegNo) (crd cp : BitVec 4) (imm : BitVec 8) (s : State) : Result :=
  offered (.ldcPostDown c n rn crd cp imm) cp s fun _ vs s =>
    ldc cp (encode (.ldcPostDown c n rn crd cp imm)) (vs.length + 1) (cpTransfer false false true (s.reg rn) imm) rn s

/-- STC (R354), offset or pre-indexed. -/
def execStcOffset (c : Cond) (u n w : Bool) (rn : RegNo) (crd cp : BitVec 4) (imm : BitVec 8) (s : State) : Result :=
  offered (.stcOffset c u n w rn crd cp imm) cp s fun v vs s =>
    stc cp (encode (.stcOffset c u n w rn crd cp imm)) (v :: vs) (cpTransfer true u w (s.reg rn) imm) rn s

/-- STC (R354), post-indexed or unindexed, upwards. -/
def execStcPostUp (c : Cond) (n w : Bool) (rn : RegNo) (crd cp : BitVec 4) (imm : BitVec 8) (s : State) : Result :=
  offered (.stcPostUp c n w rn crd cp imm) cp s fun v vs s =>
    stc cp (encode (.stcPostUp c n w rn crd cp imm)) (v :: vs) (cpTransfer false true w (s.reg rn) imm) rn s

/-- STC (R354), post-indexed, downwards. -/
def execStcPostDown (c : Cond) (n : Bool) (rn : RegNo) (crd cp : BitVec 4) (imm : BitVec 8) (s : State) : Result :=
  offered (.stcPostDown c n rn crd cp imm) cp s fun v vs s =>
    stc cp (encode (.stcPostDown c n rn crd cp imm)) (v :: vs) (cpTransfer false false true (s.reg rn) imm) rn s

/-- CDP (R352). -/
def execCdp (c : Cond) (op1 crn crd cp : BitVec 4) (op2 : BitVec 3) (crm : BitVec 4) (s : State) : Result :=
  offered (.cdp c op1 crn crd cp op2 crm) cp s fun _ _ s =>
    finish (s.sent (.dataOp cp (encode (.cdp c op1 crn crd cp op2 crm))))

/-- MCR (R358). -/
def execMcr (c : Cond) (op1 : BitVec 3) (crn : BitVec 4) (rd : RegNo) (cp : BitVec 4) (op2 : BitVec 3) (crm : BitVec 4)
    (s : State) : Result :=
  offered (.mcr c op1 crn rd cp op2 crm) cp s fun _ _ s =>
    finish (s.sent (.fromArm cp (encode (.mcr c op1 crn rd cp op2 crm)) (s.storedReg s.mode rd)))

/-- MRC (R355). -/
def execMrc (c : Cond) (op1 : BitVec 3) (crn : BitVec 4) (rd : RegNo) (cp : BitVec 4) (op2 : BitVec 3) (crm : BitVec 4)
    (s : State) : Result :=
  offered (.mrc c op1 crn rd cp op2 crm) cp s fun v _ s =>
    mrcResult rd v (s.sent (.toArm cp (encode (.mrc c op1 crn rd cp op2 crm)) v))

end Sys2Proof.Machine
end

