-- ==== Sys2Proof/Machine/DataProcessing.lean ====
section
/-! DEFINITION. The data-processing instructions (spec/43_data_processing.md R190 to R214): sixteen operations over three forms of the
second operand. -/

namespace Sys2Proof.Machine

/-- AND (R196). -/
def aluAnd (rn : Word) (o : Operand) (p : Word) : AluOut := logical (rn &&& o.value) o.carry p

/-- EOR (R197). -/
def aluEor (rn : Word) (o : Operand) (p : Word) : AluOut := logical (rn ^^^ o.value) o.carry p

/-- SUB (R198). -/
def aluSub (rn : Word) (o : Operand) (_ : Word) : AluOut := addWithCarry rn (~~~o.value) true

/-- RSB (R199). -/
def aluRsb (rn : Word) (o : Operand) (_ : Word) : AluOut := addWithCarry (~~~rn) o.value true

/-- ADD (R200). -/
def aluAdd (rn : Word) (o : Operand) (_ : Word) : AluOut := addWithCarry rn o.value false

/-- ADC (R201): the carry used is the flag. -/
def aluAdc (rn : Word) (o : Operand) (p : Word) : AluOut := addWithCarry rn o.value (psrC p)

/-- SBC (R202). -/
def aluSbc (rn : Word) (o : Operand) (p : Word) : AluOut := addWithCarry rn (~~~o.value) (psrC p)

/-- RSC (R203). -/
def aluRsc (rn : Word) (o : Operand) (p : Word) : AluOut := addWithCarry (~~~rn) o.value (psrC p)

/-- TST (R208). -/
def aluTst (rn : Word) (o : Operand) (p : Word) : AluOut := logical (rn &&& o.value) o.carry p

/-- TEQ (R209). -/
def aluTeq (rn : Word) (o : Operand) (p : Word) : AluOut := logical (rn ^^^ o.value) o.carry p

/-- CMP (R210). -/
def aluCmp (rn : Word) (o : Operand) (_ : Word) : AluOut := addWithCarry rn (~~~o.value) true

/-- CMN (R211). -/
def aluCmn (rn : Word) (o : Operand) (_ : Word) : AluOut := addWithCarry rn o.value false

/-- ORR (R204). -/
def aluOrr (rn : Word) (o : Operand) (p : Word) : AluOut := logical (rn ||| o.value) o.carry p

/-- MOV (R205). -/
def aluMov (o : Operand) (p : Word) : AluOut := logical o.value o.carry p

/-- BIC (R206). -/
def aluBic (rn : Word) (o : Operand) (p : Word) : AluOut := logical (rn &&& ~~~o.value) o.carry p

/-- MVN (R207). -/
def aluMvn (o : Operand) (p : Word) : AluOut := logical (~~~o.value) o.carry p

/-- What becomes of the result of an operation with a destination (R191): r15 is a branch (R212) or, with S, an exception return
(R213); otherwise the register takes it and, with S, the flags follow it. -/
def dataResult (sf : Bool) (rd : RegNo) (o : AluOut) (s : State) : Result :=
  if rd = 15 then (if sf then exceptionReturn o.result s else branchTo o.result s)
  else finish ((if sf then s.setAluFlags o else s).setReg rd o.result)

/-- TST, TEQ, CMP, CMN write the flags alone (R191, R208 to R211). -/
def dataTest (o : AluOut) (s : State) : Result := finish (s.setAluFlags o)

/-- AND (R196), immediate (R192). -/
def execAndImm (c : Cond) (sf : Bool) (rn rd : RegNo) (rot : BitVec 4) (imm : BitVec 8) (s : State) : Result :=
  guarded (.andImm c sf rn rd rot imm) s fun s =>
    dataResult sf rd (aluAnd (s.reg rn) (immOperand rot imm (psrC s.cpsr)) s.cpsr) s

/-- AND (R196), register shift by immediate (R193). -/
def execAndShiftImm (c : Cond) (sf : Bool) (rn rd : RegNo) (amount : BitVec 5) (kind : ShiftKind) (rm : RegNo) (s :
    State) : Result :=
  guarded (.andShiftImm c sf rn rd amount kind rm) s fun s =>
    dataResult sf rd (aluAnd (s.reg rn) (shiftImmOperand kind amount (s.reg rm) (psrC s.cpsr)) s.cpsr) s

/-- AND (R196), register shift by register (R194). -/
def execAndShiftReg (c : Cond) (sf : Bool) (rn rd rs : RegNo) (kind : ShiftKind) (rm : RegNo) (s : State) : Result :=
  guarded (.andShiftReg c sf rn rd rs kind rm) s fun s =>
    dataResult sf rd (aluAnd (s.reg rn) (shiftRegOperand kind (s.reg rs) (s.reg rm) (psrC s.cpsr)) s.cpsr) s

/-- EOR (R197), immediate (R192). -/
def execEorImm (c : Cond) (sf : Bool) (rn rd : RegNo) (rot : BitVec 4) (imm : BitVec 8) (s : State) : Result :=
  guarded (.eorImm c sf rn rd rot imm) s fun s =>
    dataResult sf rd (aluEor (s.reg rn) (immOperand rot imm (psrC s.cpsr)) s.cpsr) s

/-- EOR (R197), register shift by immediate (R193). -/
def execEorShiftImm (c : Cond) (sf : Bool) (rn rd : RegNo) (amount : BitVec 5) (kind : ShiftKind) (rm : RegNo) (s :
    State) : Result :=
  guarded (.eorShiftImm c sf rn rd amount kind rm) s fun s =>
    dataResult sf rd (aluEor (s.reg rn) (shiftImmOperand kind amount (s.reg rm) (psrC s.cpsr)) s.cpsr) s

/-- EOR (R197), register shift by register (R194). -/
def execEorShiftReg (c : Cond) (sf : Bool) (rn rd rs : RegNo) (kind : ShiftKind) (rm : RegNo) (s : State) : Result :=
  guarded (.eorShiftReg c sf rn rd rs kind rm) s fun s =>
    dataResult sf rd (aluEor (s.reg rn) (shiftRegOperand kind (s.reg rs) (s.reg rm) (psrC s.cpsr)) s.cpsr) s

/-- SUB (R198), immediate (R192). -/
def execSubImm (c : Cond) (sf : Bool) (rn rd : RegNo) (rot : BitVec 4) (imm : BitVec 8) (s : State) : Result :=
  guarded (.subImm c sf rn rd rot imm) s fun s =>
    dataResult sf rd (aluSub (s.reg rn) (immOperand rot imm (psrC s.cpsr)) s.cpsr) s

/-- SUB (R198), register shift by immediate (R193). -/
def execSubShiftImm (c : Cond) (sf : Bool) (rn rd : RegNo) (amount : BitVec 5) (kind : ShiftKind) (rm : RegNo) (s :
    State) : Result :=
  guarded (.subShiftImm c sf rn rd amount kind rm) s fun s =>
    dataResult sf rd (aluSub (s.reg rn) (shiftImmOperand kind amount (s.reg rm) (psrC s.cpsr)) s.cpsr) s

/-- SUB (R198), register shift by register (R194). -/
def execSubShiftReg (c : Cond) (sf : Bool) (rn rd rs : RegNo) (kind : ShiftKind) (rm : RegNo) (s : State) : Result :=
  guarded (.subShiftReg c sf rn rd rs kind rm) s fun s =>
    dataResult sf rd (aluSub (s.reg rn) (shiftRegOperand kind (s.reg rs) (s.reg rm) (psrC s.cpsr)) s.cpsr) s

/-- RSB (R199), immediate (R192). -/
def execRsbImm (c : Cond) (sf : Bool) (rn rd : RegNo) (rot : BitVec 4) (imm : BitVec 8) (s : State) : Result :=
  guarded (.rsbImm c sf rn rd rot imm) s fun s =>
    dataResult sf rd (aluRsb (s.reg rn) (immOperand rot imm (psrC s.cpsr)) s.cpsr) s

/-- RSB (R199), register shift by immediate (R193). -/
def execRsbShiftImm (c : Cond) (sf : Bool) (rn rd : RegNo) (amount : BitVec 5) (kind : ShiftKind) (rm : RegNo) (s :
    State) : Result :=
  guarded (.rsbShiftImm c sf rn rd amount kind rm) s fun s =>
    dataResult sf rd (aluRsb (s.reg rn) (shiftImmOperand kind amount (s.reg rm) (psrC s.cpsr)) s.cpsr) s

/-- RSB (R199), register shift by register (R194). -/
def execRsbShiftReg (c : Cond) (sf : Bool) (rn rd rs : RegNo) (kind : ShiftKind) (rm : RegNo) (s : State) : Result :=
  guarded (.rsbShiftReg c sf rn rd rs kind rm) s fun s =>
    dataResult sf rd (aluRsb (s.reg rn) (shiftRegOperand kind (s.reg rs) (s.reg rm) (psrC s.cpsr)) s.cpsr) s

/-- ADD (R200), immediate (R192). -/
def execAddImm (c : Cond) (sf : Bool) (rn rd : RegNo) (rot : BitVec 4) (imm : BitVec 8) (s : State) : Result :=
  guarded (.addImm c sf rn rd rot imm) s fun s =>
    dataResult sf rd (aluAdd (s.reg rn) (immOperand rot imm (psrC s.cpsr)) s.cpsr) s

/-- ADD (R200), register shift by immediate (R193). -/
def execAddShiftImm (c : Cond) (sf : Bool) (rn rd : RegNo) (amount : BitVec 5) (kind : ShiftKind) (rm : RegNo) (s :
    State) : Result :=
  guarded (.addShiftImm c sf rn rd amount kind rm) s fun s =>
    dataResult sf rd (aluAdd (s.reg rn) (shiftImmOperand kind amount (s.reg rm) (psrC s.cpsr)) s.cpsr) s

/-- ADD (R200), register shift by register (R194). -/
def execAddShiftReg (c : Cond) (sf : Bool) (rn rd rs : RegNo) (kind : ShiftKind) (rm : RegNo) (s : State) : Result :=
  guarded (.addShiftReg c sf rn rd rs kind rm) s fun s =>
    dataResult sf rd (aluAdd (s.reg rn) (shiftRegOperand kind (s.reg rs) (s.reg rm) (psrC s.cpsr)) s.cpsr) s

/-- ADC (R201), immediate (R192). -/
def execAdcImm (c : Cond) (sf : Bool) (rn rd : RegNo) (rot : BitVec 4) (imm : BitVec 8) (s : State) : Result :=
  guarded (.adcImm c sf rn rd rot imm) s fun s =>
    dataResult sf rd (aluAdc (s.reg rn) (immOperand rot imm (psrC s.cpsr)) s.cpsr) s

/-- ADC (R201), register shift by immediate (R193). -/
def execAdcShiftImm (c : Cond) (sf : Bool) (rn rd : RegNo) (amount : BitVec 5) (kind : ShiftKind) (rm : RegNo) (s :
    State) : Result :=
  guarded (.adcShiftImm c sf rn rd amount kind rm) s fun s =>
    dataResult sf rd (aluAdc (s.reg rn) (shiftImmOperand kind amount (s.reg rm) (psrC s.cpsr)) s.cpsr) s

/-- ADC (R201), register shift by register (R194). -/
def execAdcShiftReg (c : Cond) (sf : Bool) (rn rd rs : RegNo) (kind : ShiftKind) (rm : RegNo) (s : State) : Result :=
  guarded (.adcShiftReg c sf rn rd rs kind rm) s fun s =>
    dataResult sf rd (aluAdc (s.reg rn) (shiftRegOperand kind (s.reg rs) (s.reg rm) (psrC s.cpsr)) s.cpsr) s

/-- SBC (R202), immediate (R192). -/
def execSbcImm (c : Cond) (sf : Bool) (rn rd : RegNo) (rot : BitVec 4) (imm : BitVec 8) (s : State) : Result :=
  guarded (.sbcImm c sf rn rd rot imm) s fun s =>
    dataResult sf rd (aluSbc (s.reg rn) (immOperand rot imm (psrC s.cpsr)) s.cpsr) s

/-- SBC (R202), register shift by immediate (R193). -/
def execSbcShiftImm (c : Cond) (sf : Bool) (rn rd : RegNo) (amount : BitVec 5) (kind : ShiftKind) (rm : RegNo) (s :
    State) : Result :=
  guarded (.sbcShiftImm c sf rn rd amount kind rm) s fun s =>
    dataResult sf rd (aluSbc (s.reg rn) (shiftImmOperand kind amount (s.reg rm) (psrC s.cpsr)) s.cpsr) s

/-- SBC (R202), register shift by register (R194). -/
def execSbcShiftReg (c : Cond) (sf : Bool) (rn rd rs : RegNo) (kind : ShiftKind) (rm : RegNo) (s : State) : Result :=
  guarded (.sbcShiftReg c sf rn rd rs kind rm) s fun s =>
    dataResult sf rd (aluSbc (s.reg rn) (shiftRegOperand kind (s.reg rs) (s.reg rm) (psrC s.cpsr)) s.cpsr) s

/-- RSC (R203), immediate (R192). -/
def execRscImm (c : Cond) (sf : Bool) (rn rd : RegNo) (rot : BitVec 4) (imm : BitVec 8) (s : State) : Result :=
  guarded (.rscImm c sf rn rd rot imm) s fun s =>
    dataResult sf rd (aluRsc (s.reg rn) (immOperand rot imm (psrC s.cpsr)) s.cpsr) s

/-- RSC (R203), register shift by immediate (R193). -/
def execRscShiftImm (c : Cond) (sf : Bool) (rn rd : RegNo) (amount : BitVec 5) (kind : ShiftKind) (rm : RegNo) (s :
    State) : Result :=
  guarded (.rscShiftImm c sf rn rd amount kind rm) s fun s =>
    dataResult sf rd (aluRsc (s.reg rn) (shiftImmOperand kind amount (s.reg rm) (psrC s.cpsr)) s.cpsr) s

/-- RSC (R203), register shift by register (R194). -/
def execRscShiftReg (c : Cond) (sf : Bool) (rn rd rs : RegNo) (kind : ShiftKind) (rm : RegNo) (s : State) : Result :=
  guarded (.rscShiftReg c sf rn rd rs kind rm) s fun s =>
    dataResult sf rd (aluRsc (s.reg rn) (shiftRegOperand kind (s.reg rs) (s.reg rm) (psrC s.cpsr)) s.cpsr) s

/-- TST (R208), immediate (R192). -/
def execTstImm (c : Cond) (rn : RegNo) (sbz rot : BitVec 4) (imm : BitVec 8) (s : State) : Result :=
  guarded (.tstImm c rn sbz rot imm) s fun s =>
    dataTest (aluTst (s.reg rn) (immOperand rot imm (psrC s.cpsr)) s.cpsr) s

/-- TST (R208), register shift by immediate (R193). -/
def execTstShiftImm (c : Cond) (rn : RegNo) (sbz : BitVec 4) (amount : BitVec 5) (kind : ShiftKind) (rm : RegNo) (s :
    State) : Result :=
  guarded (.tstShiftImm c rn sbz amount kind rm) s fun s =>
    dataTest (aluTst (s.reg rn) (shiftImmOperand kind amount (s.reg rm) (psrC s.cpsr)) s.cpsr) s

/-- TST (R208), register shift by register (R194). -/
def execTstShiftReg (c : Cond) (rn : RegNo) (sbz : BitVec 4) (rs : RegNo) (kind : ShiftKind) (rm : RegNo) (s : State) :
    Result :=
  guarded (.tstShiftReg c rn sbz rs kind rm) s fun s =>
    dataTest (aluTst (s.reg rn) (shiftRegOperand kind (s.reg rs) (s.reg rm) (psrC s.cpsr)) s.cpsr) s

/-- TEQ (R209), immediate (R192). -/
def execTeqImm (c : Cond) (rn : RegNo) (sbz rot : BitVec 4) (imm : BitVec 8) (s : State) : Result :=
  guarded (.teqImm c rn sbz rot imm) s fun s =>
    dataTest (aluTeq (s.reg rn) (immOperand rot imm (psrC s.cpsr)) s.cpsr) s

/-- TEQ (R209), register shift by immediate (R193). -/
def execTeqShiftImm (c : Cond) (rn : RegNo) (sbz : BitVec 4) (amount : BitVec 5) (kind : ShiftKind) (rm : RegNo) (s :
    State) : Result :=
  guarded (.teqShiftImm c rn sbz amount kind rm) s fun s =>
    dataTest (aluTeq (s.reg rn) (shiftImmOperand kind amount (s.reg rm) (psrC s.cpsr)) s.cpsr) s

/-- TEQ (R209), register shift by register (R194). -/
def execTeqShiftReg (c : Cond) (rn : RegNo) (sbz : BitVec 4) (rs : RegNo) (kind : ShiftKind) (rm : RegNo) (s : State) :
    Result :=
  guarded (.teqShiftReg c rn sbz rs kind rm) s fun s =>
    dataTest (aluTeq (s.reg rn) (shiftRegOperand kind (s.reg rs) (s.reg rm) (psrC s.cpsr)) s.cpsr) s

/-- CMP (R210), immediate (R192). -/
def execCmpImm (c : Cond) (rn : RegNo) (sbz rot : BitVec 4) (imm : BitVec 8) (s : State) : Result :=
  guarded (.cmpImm c rn sbz rot imm) s fun s =>
    dataTest (aluCmp (s.reg rn) (immOperand rot imm (psrC s.cpsr)) s.cpsr) s

/-- CMP (R210), register shift by immediate (R193). -/
def execCmpShiftImm (c : Cond) (rn : RegNo) (sbz : BitVec 4) (amount : BitVec 5) (kind : ShiftKind) (rm : RegNo) (s :
    State) : Result :=
  guarded (.cmpShiftImm c rn sbz amount kind rm) s fun s =>
    dataTest (aluCmp (s.reg rn) (shiftImmOperand kind amount (s.reg rm) (psrC s.cpsr)) s.cpsr) s

/-- CMP (R210), register shift by register (R194). -/
def execCmpShiftReg (c : Cond) (rn : RegNo) (sbz : BitVec 4) (rs : RegNo) (kind : ShiftKind) (rm : RegNo) (s : State) :
    Result :=
  guarded (.cmpShiftReg c rn sbz rs kind rm) s fun s =>
    dataTest (aluCmp (s.reg rn) (shiftRegOperand kind (s.reg rs) (s.reg rm) (psrC s.cpsr)) s.cpsr) s

/-- CMN (R211), immediate (R192). -/
def execCmnImm (c : Cond) (rn : RegNo) (sbz rot : BitVec 4) (imm : BitVec 8) (s : State) : Result :=
  guarded (.cmnImm c rn sbz rot imm) s fun s =>
    dataTest (aluCmn (s.reg rn) (immOperand rot imm (psrC s.cpsr)) s.cpsr) s

/-- CMN (R211), register shift by immediate (R193). -/
def execCmnShiftImm (c : Cond) (rn : RegNo) (sbz : BitVec 4) (amount : BitVec 5) (kind : ShiftKind) (rm : RegNo) (s :
    State) : Result :=
  guarded (.cmnShiftImm c rn sbz amount kind rm) s fun s =>
    dataTest (aluCmn (s.reg rn) (shiftImmOperand kind amount (s.reg rm) (psrC s.cpsr)) s.cpsr) s

/-- CMN (R211), register shift by register (R194). -/
def execCmnShiftReg (c : Cond) (rn : RegNo) (sbz : BitVec 4) (rs : RegNo) (kind : ShiftKind) (rm : RegNo) (s : State) :
    Result :=
  guarded (.cmnShiftReg c rn sbz rs kind rm) s fun s =>
    dataTest (aluCmn (s.reg rn) (shiftRegOperand kind (s.reg rs) (s.reg rm) (psrC s.cpsr)) s.cpsr) s

/-- ORR (R204), immediate (R192). -/
def execOrrImm (c : Cond) (sf : Bool) (rn rd : RegNo) (rot : BitVec 4) (imm : BitVec 8) (s : State) : Result :=
  guarded (.orrImm c sf rn rd rot imm) s fun s =>
    dataResult sf rd (aluOrr (s.reg rn) (immOperand rot imm (psrC s.cpsr)) s.cpsr) s

/-- ORR (R204), register shift by immediate (R193). -/
def execOrrShiftImm (c : Cond) (sf : Bool) (rn rd : RegNo) (amount : BitVec 5) (kind : ShiftKind) (rm : RegNo) (s :
    State) : Result :=
  guarded (.orrShiftImm c sf rn rd amount kind rm) s fun s =>
    dataResult sf rd (aluOrr (s.reg rn) (shiftImmOperand kind amount (s.reg rm) (psrC s.cpsr)) s.cpsr) s

/-- ORR (R204), register shift by register (R194). -/
def execOrrShiftReg (c : Cond) (sf : Bool) (rn rd rs : RegNo) (kind : ShiftKind) (rm : RegNo) (s : State) : Result :=
  guarded (.orrShiftReg c sf rn rd rs kind rm) s fun s =>
    dataResult sf rd (aluOrr (s.reg rn) (shiftRegOperand kind (s.reg rs) (s.reg rm) (psrC s.cpsr)) s.cpsr) s

/-- MOV (R205), immediate (R192). -/
def execMovImm (c : Cond) (sf : Bool) (sbz : BitVec 4) (rd : RegNo) (rot : BitVec 4) (imm : BitVec 8) (s : State) : Result :=
  guarded (.movImm c sf sbz rd rot imm) s fun s =>
    dataResult sf rd (aluMov (immOperand rot imm (psrC s.cpsr)) s.cpsr) s

/-- MOV (R205), register shift by immediate (R193). -/
def execMovShiftImm (c : Cond) (sf : Bool) (sbz : BitVec 4) (rd : RegNo) (amount : BitVec 5) (kind : ShiftKind) (rm :
    RegNo) (s : State) : Result :=
  guarded (.movShiftImm c sf sbz rd amount kind rm) s fun s =>
    dataResult sf rd (aluMov (shiftImmOperand kind amount (s.reg rm) (psrC s.cpsr)) s.cpsr) s

/-- MOV (R205), register shift by register (R194). -/
def execMovShiftReg (c : Cond) (sf : Bool) (sbz : BitVec 4) (rd rs : RegNo) (kind : ShiftKind) (rm : RegNo) (s : State)
    : Result :=
  guarded (.movShiftReg c sf sbz rd rs kind rm) s fun s =>
    dataResult sf rd (aluMov (shiftRegOperand kind (s.reg rs) (s.reg rm) (psrC s.cpsr)) s.cpsr) s

/-- BIC (R206), immediate (R192). -/
def execBicImm (c : Cond) (sf : Bool) (rn rd : RegNo) (rot : BitVec 4) (imm : BitVec 8) (s : State) : Result :=
  guarded (.bicImm c sf rn rd rot imm) s fun s =>
    dataResult sf rd (aluBic (s.reg rn) (immOperand rot imm (psrC s.cpsr)) s.cpsr) s

/-- BIC (R206), register shift by immediate (R193). -/
def execBicShiftImm (c : Cond) (sf : Bool) (rn rd : RegNo) (amount : BitVec 5) (kind : ShiftKind) (rm : RegNo) (s :
    State) : Result :=
  guarded (.bicShiftImm c sf rn rd amount kind rm) s fun s =>
    dataResult sf rd (aluBic (s.reg rn) (shiftImmOperand kind amount (s.reg rm) (psrC s.cpsr)) s.cpsr) s

/-- BIC (R206), register shift by register (R194). -/
def execBicShiftReg (c : Cond) (sf : Bool) (rn rd rs : RegNo) (kind : ShiftKind) (rm : RegNo) (s : State) : Result :=
  guarded (.bicShiftReg c sf rn rd rs kind rm) s fun s =>
    dataResult sf rd (aluBic (s.reg rn) (shiftRegOperand kind (s.reg rs) (s.reg rm) (psrC s.cpsr)) s.cpsr) s

/-- MVN (R207), immediate (R192). -/
def execMvnImm (c : Cond) (sf : Bool) (sbz : BitVec 4) (rd : RegNo) (rot : BitVec 4) (imm : BitVec 8) (s : State) : Result :=
  guarded (.mvnImm c sf sbz rd rot imm) s fun s =>
    dataResult sf rd (aluMvn (immOperand rot imm (psrC s.cpsr)) s.cpsr) s

/-- MVN (R207), register shift by immediate (R193). -/
def execMvnShiftImm (c : Cond) (sf : Bool) (sbz : BitVec 4) (rd : RegNo) (amount : BitVec 5) (kind : ShiftKind) (rm :
    RegNo) (s : State) : Result :=
  guarded (.mvnShiftImm c sf sbz rd amount kind rm) s fun s =>
    dataResult sf rd (aluMvn (shiftImmOperand kind amount (s.reg rm) (psrC s.cpsr)) s.cpsr) s

/-- MVN (R207), register shift by register (R194). -/
def execMvnShiftReg (c : Cond) (sf : Bool) (sbz : BitVec 4) (rd rs : RegNo) (kind : ShiftKind) (rm : RegNo) (s : State)
    : Result :=
  guarded (.mvnShiftReg c sf sbz rd rs kind rm) s fun s =>
    dataResult sf rd (aluMvn (shiftRegOperand kind (s.reg rs) (s.reg rm) (psrC s.cpsr)) s.cpsr) s

end Sys2Proof.Machine
end

