-- ==== Sys2Proof/Machine/Halfword.lean ====
section
/-! DEFINITION. The halfword and signed byte transfers (spec/46_load_store_halfword_signed.md R290 to R299). -/

namespace Sys2Proof.Machine

/-- LDRH, LDRSB, LDRSH (R292, R294, R295): `extend` makes the register's value from what was read. -/
def loadExtended (w : Width) (extend : Word → Word) (t : Transfer) (rn rd : RegNo) (s : State) : Result :=
  loadThen w s.privileged t rn s fun v s => finish (s.setReg rd (extend v))

/-- `sext_8` (spec/00_scope.md R7). -/
def signExtendByte (v : Word) : Word := (v.setWidth 8).signExtend 32

/-- `sext_16` (R7). -/
def signExtendHalf (v : Word) : Word := (v.setWidth 16).signExtend 32

/-- STRH (R293). -/
def storeHalf (t : Transfer) (rn rd : RegNo) (s : State) : Result := storeThen .half s.privileged t rn (s.reg rd) s

/-- STRH (R293), immediate offset (R291). -/
def execStrhImm (c : Cond) (p u w : Bool) (rn rd : RegNo) (immH immL : BitVec 4) (s : State) : Result :=
  guarded (.strhImm c p u w rn rd immH immL) s fun s =>
    storeHalf (addrMode3 p u w (s.reg rn) (splitOffset immH immL)) rn rd s

/-- STRH (R293), register offset (R291). -/
def execStrhReg (c : Cond) (p u w : Bool) (rn rd : RegNo) (sbz : BitVec 4) (rm : RegNo) (s : State) : Result :=
  guarded (.strhReg c p u w rn rd sbz rm) s fun s =>
    storeHalf (addrMode3 p u w (s.reg rn) (s.reg rm)) rn rd s

/-- LDRH (R292), immediate offset (R291). -/
def execLdrhImm (c : Cond) (p u w : Bool) (rn rd : RegNo) (immH immL : BitVec 4) (s : State) : Result :=
  guarded (.ldrhImm c p u w rn rd immH immL) s fun s =>
    loadExtended .half (fun v => v) (addrMode3 p u w (s.reg rn) (splitOffset immH immL)) rn rd s

/-- LDRH (R292), register offset (R291). -/
def execLdrhReg (c : Cond) (p u w : Bool) (rn rd : RegNo) (sbz : BitVec 4) (rm : RegNo) (s : State) : Result :=
  guarded (.ldrhReg c p u w rn rd sbz rm) s fun s =>
    loadExtended .half (fun v => v) (addrMode3 p u w (s.reg rn) (s.reg rm)) rn rd s

/-- LDRSB (R294), immediate offset (R291). -/
def execLdrsbImm (c : Cond) (p u w : Bool) (rn rd : RegNo) (immH immL : BitVec 4) (s : State) : Result :=
  guarded (.ldrsbImm c p u w rn rd immH immL) s fun s =>
    loadExtended .byte signExtendByte (addrMode3 p u w (s.reg rn) (splitOffset immH immL)) rn rd s

/-- LDRSB (R294), register offset (R291). -/
def execLdrsbReg (c : Cond) (p u w : Bool) (rn rd : RegNo) (sbz : BitVec 4) (rm : RegNo) (s : State) : Result :=
  guarded (.ldrsbReg c p u w rn rd sbz rm) s fun s =>
    loadExtended .byte signExtendByte (addrMode3 p u w (s.reg rn) (s.reg rm)) rn rd s

/-- LDRSH (R295), immediate offset (R291). -/
def execLdrshImm (c : Cond) (p u w : Bool) (rn rd : RegNo) (immH immL : BitVec 4) (s : State) : Result :=
  guarded (.ldrshImm c p u w rn rd immH immL) s fun s =>
    loadExtended .half signExtendHalf (addrMode3 p u w (s.reg rn) (splitOffset immH immL)) rn rd s

/-- LDRSH (R295), register offset (R291). -/
def execLdrshReg (c : Cond) (p u w : Bool) (rn rd : RegNo) (sbz : BitVec 4) (rm : RegNo) (s : State) : Result :=
  guarded (.ldrshReg c p u w rn rd sbz rm) s fun s =>
    loadExtended .half signExtendHalf (addrMode3 p u w (s.reg rn) (s.reg rm)) rn rd s

end Sys2Proof.Machine
end

