-- ==== Sys2Proof/Machine/LoadStore.lean ====
section
/-! DEFINITION. The word and unsigned byte transfers (spec/45_load_store_word_byte.md R260 to R277). The T forms pass `priv` = false to the
memory (R270). -/

namespace Sys2Proof.Machine

/-- What R268 calls UNPREDICTABLE of an LDR into r15 (U26): an address that is not word aligned and, from v5T on, a loaded word with
bits 1:0 = 0b10. -/
def loadPcStop (v5t : Bool) (address v : Word) : Bool :=
  address.extractLsb' 0 2 != 0b00#2 || (v5t && v.extractLsb' 0 2 == 0b10#2)

/-- LDR, LDRT (R262, R268, R271): the word rotated by the address's low bits; into r15 it is a branch. -/
def loadWord (priv : Bool) (t : Transfer) (rn rd : RegNo) (s : State) : Result :=
  loadThen .word priv t rn s fun v s =>
    if rd = 15 then (if loadPcStop s.cfg.archV5T t.address v then refuse .loadPcBits else .next (loadPc v s))
    else finish (s.setReg rd (rotatedLoad t.address v))

/-- LDRB, LDRBT (R264, R273). -/
def loadByte (priv : Bool) (t : Transfer) (rn rd : RegNo) (s : State) : Result :=
  loadThen .byte priv t rn s fun v s => finish (s.setReg rd v)

/-- STR, STRT (R263, R269, R272). -/
def storeWord (priv : Bool) (t : Transfer) (rn rd : RegNo) (s : State) : Result :=
  storeThen .word priv t rn (s.storedReg s.mode rd) s

/-- STRB, STRBT (R266, R274). -/
def storeByte (priv : Bool) (t : Transfer) (rn rd : RegNo) (s : State) : Result :=
  storeThen .byte priv t rn (s.reg rd) s

/-- LDR (R262), immediate offset or preindexed (R261, R265). -/
def execLdrImm (c : Cond) (u w : Bool) (rn rd : RegNo) (imm : BitVec 12) (s : State) : Result :=
  guarded (.ldrImm c u w rn rd imm) s fun s =>
    loadWord s.privileged (addrMode2 true u w (s.reg rn) (imm.setWidth 32)) rn rd s

/-- LDR (R262), immediate postindexed (R261, R265). -/
def execLdrImmPost (c : Cond) (u : Bool) (rn rd : RegNo) (imm : BitVec 12) (s : State) : Result :=
  guarded (.ldrImmPost c u rn rd imm) s fun s =>
    loadWord s.privileged (addrMode2 false u false (s.reg rn) (imm.setWidth 32)) rn rd s

/-- LDRT (R271), immediate postindexed user (R261, R265). -/
def execLdrtImm (c : Cond) (u : Bool) (rn rd : RegNo) (imm : BitVec 12) (s : State) : Result :=
  guarded (.ldrtImm c u rn rd imm) s fun s =>
    loadWord false (addrMode2 false u true (s.reg rn) (imm.setWidth 32)) rn rd s

/-- LDR (R262), register offset or preindexed (R261, R265). -/
def execLdrReg (c : Cond) (u w : Bool) (rn rd : RegNo) (amount : BitVec 5) (kind : ShiftKind) (rm : RegNo) (s : State)
    : Result :=
  guarded (.ldrReg c u w rn rd amount kind rm) s fun s =>
    loadWord s.privileged (addrMode2 true u w (s.reg rn) (scaledOffset kind amount (s.reg rm) (psrC s.cpsr))) rn rd s

/-- LDR (R262), register postindexed (R261, R265). -/
def execLdrRegPost (c : Cond) (u : Bool) (rn rd : RegNo) (amount : BitVec 5) (kind : ShiftKind) (rm : RegNo) (s :
    State) : Result :=
  guarded (.ldrRegPost c u rn rd amount kind rm) s fun s =>
    loadWord s.privileged (addrMode2 false u false (s.reg rn) (scaledOffset kind amount (s.reg rm) (psrC s.cpsr))) rn rd s

/-- LDRT (R271), register postindexed user (R261, R265). -/
def execLdrtReg (c : Cond) (u : Bool) (rn rd : RegNo) (amount : BitVec 5) (kind : ShiftKind) (rm : RegNo) (s : State) :
    Result :=
  guarded (.ldrtReg c u rn rd amount kind rm) s fun s =>
    loadWord false (addrMode2 false u true (s.reg rn) (scaledOffset kind amount (s.reg rm) (psrC s.cpsr))) rn rd s

/-- STR (R263), immediate offset or preindexed (R261, R265). -/
def execStrImm (c : Cond) (u w : Bool) (rn rd : RegNo) (imm : BitVec 12) (s : State) : Result :=
  guarded (.strImm c u w rn rd imm) s fun s =>
    storeWord s.privileged (addrMode2 true u w (s.reg rn) (imm.setWidth 32)) rn rd s

/-- STR (R263), immediate postindexed (R261, R265). -/
def execStrImmPost (c : Cond) (u : Bool) (rn rd : RegNo) (imm : BitVec 12) (s : State) : Result :=
  guarded (.strImmPost c u rn rd imm) s fun s =>
    storeWord s.privileged (addrMode2 false u false (s.reg rn) (imm.setWidth 32)) rn rd s

/-- STRT (R272), immediate postindexed user (R261, R265). -/
def execStrtImm (c : Cond) (u : Bool) (rn rd : RegNo) (imm : BitVec 12) (s : State) : Result :=
  guarded (.strtImm c u rn rd imm) s fun s =>
    storeWord false (addrMode2 false u true (s.reg rn) (imm.setWidth 32)) rn rd s

/-- STR (R263), register offset or preindexed (R261, R265). -/
def execStrReg (c : Cond) (u w : Bool) (rn rd : RegNo) (amount : BitVec 5) (kind : ShiftKind) (rm : RegNo) (s : State)
    : Result :=
  guarded (.strReg c u w rn rd amount kind rm) s fun s =>
    storeWord s.privileged (addrMode2 true u w (s.reg rn) (scaledOffset kind amount (s.reg rm) (psrC s.cpsr))) rn rd s

/-- STR (R263), register postindexed (R261, R265). -/
def execStrRegPost (c : Cond) (u : Bool) (rn rd : RegNo) (amount : BitVec 5) (kind : ShiftKind) (rm : RegNo) (s :
    State) : Result :=
  guarded (.strRegPost c u rn rd amount kind rm) s fun s =>
    storeWord s.privileged (addrMode2 false u false (s.reg rn) (scaledOffset kind amount (s.reg rm) (psrC s.cpsr))) rn rd s

/-- STRT (R272), register postindexed user (R261, R265). -/
def execStrtReg (c : Cond) (u : Bool) (rn rd : RegNo) (amount : BitVec 5) (kind : ShiftKind) (rm : RegNo) (s : State) :
    Result :=
  guarded (.strtReg c u rn rd amount kind rm) s fun s =>
    storeWord false (addrMode2 false u true (s.reg rn) (scaledOffset kind amount (s.reg rm) (psrC s.cpsr))) rn rd s

/-- LDRB (R264), immediate offset or preindexed (R261, R265). -/
def execLdrbImm (c : Cond) (u w : Bool) (rn rd : RegNo) (imm : BitVec 12) (s : State) : Result :=
  guarded (.ldrbImm c u w rn rd imm) s fun s =>
    loadByte s.privileged (addrMode2 true u w (s.reg rn) (imm.setWidth 32)) rn rd s

/-- LDRB (R264), immediate postindexed (R261, R265). -/
def execLdrbImmPost (c : Cond) (u : Bool) (rn rd : RegNo) (imm : BitVec 12) (s : State) : Result :=
  guarded (.ldrbImmPost c u rn rd imm) s fun s =>
    loadByte s.privileged (addrMode2 false u false (s.reg rn) (imm.setWidth 32)) rn rd s

/-- LDRBT (R273), immediate postindexed user (R261, R265). -/
def execLdrbtImm (c : Cond) (u : Bool) (rn rd : RegNo) (imm : BitVec 12) (s : State) : Result :=
  guarded (.ldrbtImm c u rn rd imm) s fun s =>
    loadByte false (addrMode2 false u true (s.reg rn) (imm.setWidth 32)) rn rd s

/-- LDRB (R264), register offset or preindexed (R261, R265). -/
def execLdrbReg (c : Cond) (u w : Bool) (rn rd : RegNo) (amount : BitVec 5) (kind : ShiftKind) (rm : RegNo) (s : State)
    : Result :=
  guarded (.ldrbReg c u w rn rd amount kind rm) s fun s =>
    loadByte s.privileged (addrMode2 true u w (s.reg rn) (scaledOffset kind amount (s.reg rm) (psrC s.cpsr))) rn rd s

/-- LDRB (R264), register postindexed (R261, R265). -/
def execLdrbRegPost (c : Cond) (u : Bool) (rn rd : RegNo) (amount : BitVec 5) (kind : ShiftKind) (rm : RegNo) (s :
    State) : Result :=
  guarded (.ldrbRegPost c u rn rd amount kind rm) s fun s =>
    loadByte s.privileged (addrMode2 false u false (s.reg rn) (scaledOffset kind amount (s.reg rm) (psrC s.cpsr))) rn rd s

/-- LDRBT (R273), register postindexed user (R261, R265). -/
def execLdrbtReg (c : Cond) (u : Bool) (rn rd : RegNo) (amount : BitVec 5) (kind : ShiftKind) (rm : RegNo) (s : State)
    : Result :=
  guarded (.ldrbtReg c u rn rd amount kind rm) s fun s =>
    loadByte false (addrMode2 false u true (s.reg rn) (scaledOffset kind amount (s.reg rm) (psrC s.cpsr))) rn rd s

/-- STRB (R266), immediate offset or preindexed (R261, R265). -/
def execStrbImm (c : Cond) (u w : Bool) (rn rd : RegNo) (imm : BitVec 12) (s : State) : Result :=
  guarded (.strbImm c u w rn rd imm) s fun s =>
    storeByte s.privileged (addrMode2 true u w (s.reg rn) (imm.setWidth 32)) rn rd s

/-- STRB (R266), immediate postindexed (R261, R265). -/
def execStrbImmPost (c : Cond) (u : Bool) (rn rd : RegNo) (imm : BitVec 12) (s : State) : Result :=
  guarded (.strbImmPost c u rn rd imm) s fun s =>
    storeByte s.privileged (addrMode2 false u false (s.reg rn) (imm.setWidth 32)) rn rd s

/-- STRBT (R274), immediate postindexed user (R261, R265). -/
def execStrbtImm (c : Cond) (u : Bool) (rn rd : RegNo) (imm : BitVec 12) (s : State) : Result :=
  guarded (.strbtImm c u rn rd imm) s fun s =>
    storeByte false (addrMode2 false u true (s.reg rn) (imm.setWidth 32)) rn rd s

/-- STRB (R266), register offset or preindexed (R261, R265). -/
def execStrbReg (c : Cond) (u w : Bool) (rn rd : RegNo) (amount : BitVec 5) (kind : ShiftKind) (rm : RegNo) (s : State)
    : Result :=
  guarded (.strbReg c u w rn rd amount kind rm) s fun s =>
    storeByte s.privileged (addrMode2 true u w (s.reg rn) (scaledOffset kind amount (s.reg rm) (psrC s.cpsr))) rn rd s

/-- STRB (R266), register postindexed (R261, R265). -/
def execStrbRegPost (c : Cond) (u : Bool) (rn rd : RegNo) (amount : BitVec 5) (kind : ShiftKind) (rm : RegNo) (s :
    State) : Result :=
  guarded (.strbRegPost c u rn rd amount kind rm) s fun s =>
    storeByte s.privileged (addrMode2 false u false (s.reg rn) (scaledOffset kind amount (s.reg rm) (psrC s.cpsr))) rn rd s

/-- STRBT (R274), register postindexed user (R261, R265). -/
def execStrbtReg (c : Cond) (u : Bool) (rn rd : RegNo) (amount : BitVec 5) (kind : ShiftKind) (rm : RegNo) (s : State)
    : Result :=
  guarded (.strbtReg c u rn rd amount kind rm) s fun s =>
    storeByte false (addrMode2 false u true (s.reg rn) (scaledOffset kind amount (s.reg rm) (psrC s.cpsr))) rn rd s

end Sys2Proof.Machine
end

