-- ==== Sys2Proof/Machine/Multiple.lean ====
section
/-! DEFINITION. LDM and STM (spec/47_load_store_multiple.md R310 to R321). -/

namespace Sys2Proof.Machine

/-- How the loads of a list of registers ended: all of them made, or one aborted. -/
inductive BlockLoad where
  /-- The address after the last word, and the state. -/
  | complete (address : Word) (s : State)
  | aborted (s : State)
deriving DecidableEq, Repr

/-- Registers that hold no defined value after an aborted LDM (R320): a free value each. Logs 8, 23. -/
def drawRegs (m : Option Mode) : List RegNo → State → State
  | [], s => s
  | r :: rs, s => drawRegs m rs { s.setPhys (bank m r) (Config.drawWord s.draws) with draws := s.draws + 1 }

/-- The loads of LDM in ascending order (R313) into the bank of mode `m`, up to the first that aborts (R320). -/
def loadBlock (m : Option Mode) : List RegNo → Word → State → BlockLoad
  | [], a, s => .complete a s
  | r :: rs, a, s =>
    match memRead .word a s.privileged s with
    | .done (v, s1) => loadBlock m rs (a + 4) (s1.setPhys (bank m r) v)
    | _ => .aborted (drawRegs m (r :: rs) s)

/-- The stores of STM, every one attempted in ascending order (R313, R320): the state, and whether one aborted. -/
def storeBlock : List Word → Word → Bool → State → Bool × State
  | [], _, failed, s => (failed, s)
  | v :: vs, a, failed, s =>
    match memWrite .word a v s.privileged s with
    | .done s1 => storeBlock vs (a + 4) failed s1
    | _ => storeBlock vs (a + 4) true s

/-- The base register of an aborted LDM or STM (R320): its value from before the instruction, or the new base when it is written
back under the base updated model. `before` is the state before the transfers. Log 23. -/
def abortMultiple (w : Bool) (rn : RegNo) (base : Word) (before s : State) : State :=
  takeException .dataAbort
    (s.setPhys (before.phys rn)
      (if w && before.cfg.abortModel = .baseUpdated then base else before.getPhys (before.phys rn)))

/-- Write-back of LDM and STM (R312, R314). -/
def writeBackMultiple (w : Bool) (rn : RegNo) (base : Word) (s : State) : State := if w then s.setReg rn base else s

/-- The end of STM (1) and STM (2) (R314, R317, R320). -/
def storeMultiple (m : Option Mode) (p u w : Bool) (rn : RegNo) (list : BitVec 16) (s : State) : Result :=
  let regs := listedRegs list
  let base := newBase u (s.reg rn) regs.length
  let (failed, s1) := storeBlock (regs.map (s.storedReg m)) (startAddress p u (s.reg rn) regs.length) false s
  afterStores s s1
    (if failed then .next (abortMultiple w rn base s s1) else finish (writeBackMultiple w rn base s1))

/-- The end of LDM (3) (R316): the SPSR goes to the CPSR, the loaded word to the pc with the bits its new state has. -/
def returnTo (v : Word) (s : State) : Result :=
  match s.returnPsr with
  | .error u => refuse u
  | .ok psr => .next { s with cpsr := psr, pc := if psrT psr then v &&& 0xFFFFFFFE else v &&& 0xFFFFFFFC }

/-- The loads of LDM (1) and LDM (3): the registers below r15 in the current mode's bank, then, when `withPc`, the word for r15,
which `last` uses. -/
def loadMultiple (p u w : Bool) (rn : RegNo) (regs : List RegNo) (withPc : Bool) (s : State)
    (last : Option Word → Word → State → Result) : Result :=
  let count := regs.length + (if withPc then 1 else 0)
  let base := newBase u (s.reg rn) count
  match loadBlock s.mode regs (startAddress p u (s.reg rn) count) s with
  | .aborted s1 => .next (abortMultiple w rn base s s1)
  | .complete a s1 =>
    if withPc then
      match memRead .word a s1.privileged s1 with
      | .done (v, s2) => last (some v) base s2
      | _ => .next (abortMultiple w rn base s s1)
    else last none base s1

/-- LDM (1) (R312). -/
def execLdm (c : Cond) (p u w : Bool) (rn : RegNo) (list : BitVec 16) (s : State) : Result :=
  guarded (.ldm c p u w rn list) s fun s =>
    loadMultiple p u w rn (listedRegs (list.setWidth 15)) (list.getLsbD 15) s fun pcWord base s =>
      match pcWord with
      | some v => .next (loadPc v (writeBackMultiple w rn base s))
      | none => finish (writeBackMultiple w rn base s)

/-- LDM (2), the User bank (R315); the next instruction must not access r8 to r14 (R471, log 13). -/
def execLdmUser (c : Cond) (p u w : Bool) (rn : RegNo) (list : BitVec 15) (s : State) : Result :=
  guarded (.ldmUser c p u w rn list) s fun s =>
    if s.mode = some .user ∨ s.mode = some .system then refuse .userBankForm
    else
      let regs := listedRegs list
      match loadBlock (some .user) regs (startAddress p u (s.reg rn) regs.length) s with
      | .aborted s1 => .next (abortMultiple w rn (newBase u (s.reg rn) regs.length) s s1)
      | .complete _ s1 => finish { s1 with userBankWindow := true }

/-- LDM (3), the exception return (R316). -/
def execLdmReturn (c : Cond) (p u w : Bool) (rn : RegNo) (list : BitVec 15) (s : State) : Result :=
  guarded (.ldmReturn c p u w rn list) s fun s =>
    match s.currentSpsr with
    | none => refuse .noSpsr
    | some _ =>
      loadMultiple p u w rn (listedRegs list) true s fun pcWord base s =>
        returnTo (pcWord.getD 0) (writeBackMultiple w rn base s)

/-- STM (1) (R314). -/
def execStm (c : Cond) (p u w : Bool) (rn : RegNo) (list : BitVec 16) (s : State) : Result :=
  guarded (.stm c p u w rn list) s fun s => storeMultiple s.mode p u w rn list s

/-- STM (2), the User bank (R317). -/
def execStmUser (c : Cond) (p u w : Bool) (rn : RegNo) (list : BitVec 16) (s : State) : Result :=
  guarded (.stmUser c p u w rn list) s fun s =>
    if s.mode = some .user ∨ s.mode = some .system then refuse .userBankForm
    else storeMultiple (some .user) p u w rn list s

end Sys2Proof.Machine
end

