-- ==== Sys2Proof/Machine/Multiply.lean ====
section
/-! DEFINITION. The multiplies and CLZ (spec/44_multiply_clz.md R240 to R252). -/

namespace Sys2Proof.Machine

/-- The flags of a multiply with S = 1 (R245): N and Z from the result, V not modified, and C a free value ("C ← X"): the next bit
drawn. Log 8. -/
def setMultiplyFlags (n z : Bool) (s : State) : State :=
  { s with cpsr := psrWithFlags s.cpsr n z (Config.drawBit s.draws) (psrV s.cpsr), draws := s.draws + 1 }

/-- The end of MUL and MLA: the low 32 bits of the exact value (R241, R242). -/
def multiplyResult (sf : Bool) (rd : RegNo) (value : Nat) (s : State) : Result :=
  let r : Word := BitVec.ofNat 32 value
  finish ((if sf then setMultiplyFlags (r.getLsbD 31) (r == 0) s else s).setReg rd r)

/-- The end of the long multiplies: the exact value modulo 2^64 (R243, R244, R247, R248). -/
def multiplyLongResult (sf : Bool) (rdHi rdLo : RegNo) (value : Int) (s : State) : Result :=
  let r : BitVec 64 := BitVec.ofInt 64 value
  let s1 := if sf then setMultiplyFlags (r.getLsbD 63) (r == 0) s else s
  finish ((s1.setReg rdLo (r.extractLsb' 0 32)).setReg rdHi (r.extractLsb' 32 32))

/-- The 64-bit accumulator of UMLAL and SMLAL (R244, R248). -/
def accumulator (rdHi rdLo : RegNo) (s : State) : Int := ((s.reg rdHi ++ s.reg rdLo).toNat : Int)

/-- MUL (R241). -/
def execMul (c : Cond) (sf : Bool) (rd : RegNo) (sbz : BitVec 4) (rs rm : RegNo) (s : State) : Result :=
  guarded (.mul c sf rd sbz rs rm) s fun s => multiplyResult sf rd ((s.reg rm).toNat * (s.reg rs).toNat) s

/-- MLA (R242). -/
def execMla (c : Cond) (sf : Bool) (rd rn rs rm : RegNo) (s : State) : Result :=
  guarded (.mla c sf rd rn rs rm) s fun s =>
    multiplyResult sf rd ((s.reg rm).toNat * (s.reg rs).toNat + (s.reg rn).toNat) s

/-- UMULL (R243). -/
def execUmull (c : Cond) (sf : Bool) (rdHi rdLo rs rm : RegNo) (s : State) : Result :=
  guarded (.umull c sf rdHi rdLo rs rm) s fun s =>
    multiplyLongResult sf rdHi rdLo ((s.reg rm).toNat * (s.reg rs).toNat) s

/-- UMLAL (R244). -/
def execUmlal (c : Cond) (sf : Bool) (rdHi rdLo rs rm : RegNo) (s : State) : Result :=
  guarded (.umlal c sf rdHi rdLo rs rm) s fun s =>
    multiplyLongResult sf rdHi rdLo ((s.reg rm).toNat * (s.reg rs).toNat + accumulator rdHi rdLo s) s

/-- SMULL (R247). -/
def execSmull (c : Cond) (sf : Bool) (rdHi rdLo rs rm : RegNo) (s : State) : Result :=
  guarded (.smull c sf rdHi rdLo rs rm) s fun s =>
    multiplyLongResult sf rdHi rdLo ((s.reg rm).toInt * (s.reg rs).toInt) s

/-- SMLAL (R248). -/
def execSmlal (c : Cond) (sf : Bool) (rdHi rdLo rs rm : RegNo) (s : State) : Result :=
  guarded (.smlal c sf rdHi rdLo rs rm) s fun s =>
    multiplyLongResult sf rdHi rdLo ((s.reg rm).toInt * (s.reg rs).toInt + accumulator rdHi rdLo s) s

/-- CLZ (R249). -/
def execClz (c : Cond) (sboHi : BitVec 4) (rd : RegNo) (sboLo : BitVec 4) (rm : RegNo) (s : State) : Result :=
  guarded (.clz c sboHi rd sboLo rm) s fun s =>
    finish (s.setReg rd (BitVec.ofNat 32 (countLeadingZeros (s.reg rm))))

end Sys2Proof.Machine
end

