-- ==== Sys2Proof/Machine/StatusSwap.lean ====
section
/-! DEFINITION. SWP, SWPB, MRS and MSR (spec/48_swap_and_status_register.md R330 to R340). -/

namespace Sys2Proof.Machine

/-- The read and the write of a swap as one step (R330, R331): `result` makes the destination's value from the word read. -/
def swap (w : Width) (rn rd rm : RegNo) (result : Word → Word) (s : State) : Result :=
  match memRead w (s.reg rn) s.privileged s with
  | .unpredictable u => refuse u
  | .aborted => .next (takeException .dataAbort s)
  | .done (v, s1) =>
    match memWrite w (s.reg rn) (s.reg rm) s.privileged s1 with
    | .unpredictable u => refuse u
    | .aborted => .next (takeException .dataAbort s1)
    | .done s2 => afterStores s s2 (finish (s2.setReg rd (result v)))

/-- The bits a field mask selects (R338). -/
def fieldBits (fields : BitVec 4) : Word :=
  (if fields.getLsbD 0 then 0x000000FF else 0) ||| (if fields.getLsbD 1 then 0x0000FF00 else 0) |||
    (if fields.getLsbD 2 then 0x00FF0000 else 0) ||| (if fields.getLsbD 3 then 0xFF000000 else 0)

/-- A status word with the bits of a mask replaced (R338). -/
def maskedWrite (old mask new : Word) : Word := (old &&& ~~~mask) ||| (new &&& mask)

/-- The CPSR half of `PSRWrite` (R338): User mode writes the f field only; a privileged write must not change T and must leave a
mode (R35). -/
def writeCpsr (fields : BitVec 4) (operand : Word) (s : State) : Result :=
  let mask := if s.privileged then fieldBits fields else fieldBits fields &&& 0xFF000000
  let new := maskedWrite s.cpsr mask operand
  if psrT new != psrT s.cpsr then refuse .msrChangesT
  else if s.privileged && fields.getLsbD 0 && (Mode.ofBits (psrMode new)).isNone then refuse .writesNonMode
  else finish { s with cpsr := new }

/-- The SPSR half of `PSRWrite` (R338); an SPSR may hold any mode bits. -/
def writeSpsr (fields : BitVec 4) (operand : Word) (s : State) : Result :=
  match s.currentSpsr with
  | none => refuse .noSpsr
  | some p => finish (s.setSpsr s.mode (maskedWrite p (fieldBits fields) operand))

/-- `PSRWrite` (R338). -/
def writePsr (spsr : Bool) (fields : BitVec 4) (operand : Word) (s : State) : Result :=
  if spsr then writeSpsr fields operand s else writeCpsr fields operand s

/-- The register MRS reads (R333). -/
def readPsr (spsr : Bool) (s : State) : Option Word := if spsr then s.currentSpsr else some s.cpsr

/-- SWP (R330): the word read is rotated as LDR rotates it. -/
def execSwp (c : Cond) (rn rd : RegNo) (sbz : BitVec 4) (rm : RegNo) (s : State) : Result :=
  guarded (.swp c rn rd sbz rm) s fun s =>
    swap .word rn rd rm (rotatedLoad (s.reg rn)) s

/-- SWPB (R331). -/
def execSwpb (c : Cond) (rn rd : RegNo) (sbz : BitVec 4) (rm : RegNo) (s : State) : Result :=
  guarded (.swpb c rn rd sbz rm) s fun s => swap .byte rn rd rm (fun v => v) s

/-- MRS (R333). -/
def execMrs (c : Cond) (spsr : Bool) (sbo : BitVec 4) (rd : RegNo) (sbzHi sbzLo : BitVec 4) (s : State) : Result :=
  guarded (.mrs c spsr sbo rd sbzHi sbzLo) s fun s =>
    match readPsr spsr s with
    | none => refuse .noSpsr
    | some p => finish (s.setReg rd p)

/-- MSR with a register (R335). -/
def execMsrReg (c : Cond) (spsr : Bool) (fields sbo sbz : BitVec 4) (rm : RegNo) (s : State) : Result :=
  guarded (.msrReg c spsr fields sbo sbz rm) s fun s => writePsr spsr fields (s.reg rm) s

/-- MSR with an immediate (R336). -/
def execMsrImm (c : Cond) (spsr : Bool) (fields sbo rot : BitVec 4) (imm : BitVec 8) (s : State) : Result :=
  guarded (.msrImm c spsr fields sbo rot imm) s fun s =>
    writePsr spsr fields (rotatedImmediate rot imm) s

end Sys2Proof.Machine
end

