-- ==== Sys2Proof/Machine/Dispatch.lean ====
section
/-! DEFINITION. One arm for each row of spec/opcode_table.json: the meaning of every instruction. -/

namespace Sys2Proof.Machine

def exec (i : Instr) (s : State) : Host.Outcome State Fault Refusal :=
  match i with
  | .andImm c sf rn rd rot imm => Sys2Proof.Machine.execAndImm c sf rn rd rot imm s
  | .andShiftImm c sf rn rd amount kind rm => Sys2Proof.Machine.execAndShiftImm c sf rn rd amount kind rm s
  | .andShiftReg c sf rn rd rs kind rm => Sys2Proof.Machine.execAndShiftReg c sf rn rd rs kind rm s
  | .eorImm c sf rn rd rot imm => Sys2Proof.Machine.execEorImm c sf rn rd rot imm s
  | .eorShiftImm c sf rn rd amount kind rm => Sys2Proof.Machine.execEorShiftImm c sf rn rd amount kind rm s
  | .eorShiftReg c sf rn rd rs kind rm => Sys2Proof.Machine.execEorShiftReg c sf rn rd rs kind rm s
  | .subImm c sf rn rd rot imm => Sys2Proof.Machine.execSubImm c sf rn rd rot imm s
  | .subShiftImm c sf rn rd amount kind rm => Sys2Proof.Machine.execSubShiftImm c sf rn rd amount kind rm s
  | .subShiftReg c sf rn rd rs kind rm => Sys2Proof.Machine.execSubShiftReg c sf rn rd rs kind rm s
  | .rsbImm c sf rn rd rot imm => Sys2Proof.Machine.execRsbImm c sf rn rd rot imm s
  | .rsbShiftImm c sf rn rd amount kind rm => Sys2Proof.Machine.execRsbShiftImm c sf rn rd amount kind rm s
  | .rsbShiftReg c sf rn rd rs kind rm => Sys2Proof.Machine.execRsbShiftReg c sf rn rd rs kind rm s
  | .addImm c sf rn rd rot imm => Sys2Proof.Machine.execAddImm c sf rn rd rot imm s
  | .addShiftImm c sf rn rd amount kind rm => Sys2Proof.Machine.execAddShiftImm c sf rn rd amount kind rm s
  | .addShiftReg c sf rn rd rs kind rm => Sys2Proof.Machine.execAddShiftReg c sf rn rd rs kind rm s
  | .adcImm c sf rn rd rot imm => Sys2Proof.Machine.execAdcImm c sf rn rd rot imm s
  | .adcShiftImm c sf rn rd amount kind rm => Sys2Proof.Machine.execAdcShiftImm c sf rn rd amount kind rm s
  | .adcShiftReg c sf rn rd rs kind rm => Sys2Proof.Machine.execAdcShiftReg c sf rn rd rs kind rm s
  | .sbcImm c sf rn rd rot imm => Sys2Proof.Machine.execSbcImm c sf rn rd rot imm s
  | .sbcShiftImm c sf rn rd amount kind rm => Sys2Proof.Machine.execSbcShiftImm c sf rn rd amount kind rm s
  | .sbcShiftReg c sf rn rd rs kind rm => Sys2Proof.Machine.execSbcShiftReg c sf rn rd rs kind rm s
  | .rscImm c sf rn rd rot imm => Sys2Proof.Machine.execRscImm c sf rn rd rot imm s
  | .rscShiftImm c sf rn rd amount kind rm => Sys2Proof.Machine.execRscShiftImm c sf rn rd amount kind rm s
  | .rscShiftReg c sf rn rd rs kind rm => Sys2Proof.Machine.execRscShiftReg c sf rn rd rs kind rm s
  | .tstImm c rn sbz rot imm => Sys2Proof.Machine.execTstImm c rn sbz rot imm s
  | .tstShiftImm c rn sbz amount kind rm => Sys2Proof.Machine.execTstShiftImm c rn sbz amount kind rm s
  | .tstShiftReg c rn sbz rs kind rm => Sys2Proof.Machine.execTstShiftReg c rn sbz rs kind rm s
  | .teqImm c rn sbz rot imm => Sys2Proof.Machine.execTeqImm c rn sbz rot imm s
  | .teqShiftImm c rn sbz amount kind rm => Sys2Proof.Machine.execTeqShiftImm c rn sbz amount kind rm s
  | .teqShiftReg c rn sbz rs kind rm => Sys2Proof.Machine.execTeqShiftReg c rn sbz rs kind rm s
  | .cmpImm c rn sbz rot imm => Sys2Proof.Machine.execCmpImm c rn sbz rot imm s
  | .cmpShiftImm c rn sbz amount kind rm => Sys2Proof.Machine.execCmpShiftImm c rn sbz amount kind rm s
  | .cmpShiftReg c rn sbz rs kind rm => Sys2Proof.Machine.execCmpShiftReg c rn sbz rs kind rm s
  | .cmnImm c rn sbz rot imm => Sys2Proof.Machine.execCmnImm c rn sbz rot imm s
  | .cmnShiftImm c rn sbz amount kind rm => Sys2Proof.Machine.execCmnShiftImm c rn sbz amount kind rm s
  | .cmnShiftReg c rn sbz rs kind rm => Sys2Proof.Machine.execCmnShiftReg c rn sbz rs kind rm s
  | .orrImm c sf rn rd rot imm => Sys2Proof.Machine.execOrrImm c sf rn rd rot imm s
  | .orrShiftImm c sf rn rd amount kind rm => Sys2Proof.Machine.execOrrShiftImm c sf rn rd amount kind rm s
  | .orrShiftReg c sf rn rd rs kind rm => Sys2Proof.Machine.execOrrShiftReg c sf rn rd rs kind rm s
  | .movImm c sf sbz rd rot imm => Sys2Proof.Machine.execMovImm c sf sbz rd rot imm s
  | .movShiftImm c sf sbz rd amount kind rm => Sys2Proof.Machine.execMovShiftImm c sf sbz rd amount kind rm s
  | .movShiftReg c sf sbz rd rs kind rm => Sys2Proof.Machine.execMovShiftReg c sf sbz rd rs kind rm s
  | .bicImm c sf rn rd rot imm => Sys2Proof.Machine.execBicImm c sf rn rd rot imm s
  | .bicShiftImm c sf rn rd amount kind rm => Sys2Proof.Machine.execBicShiftImm c sf rn rd amount kind rm s
  | .bicShiftReg c sf rn rd rs kind rm => Sys2Proof.Machine.execBicShiftReg c sf rn rd rs kind rm s
  | .mvnImm c sf sbz rd rot imm => Sys2Proof.Machine.execMvnImm c sf sbz rd rot imm s
  | .mvnShiftImm c sf sbz rd amount kind rm => Sys2Proof.Machine.execMvnShiftImm c sf sbz rd amount kind rm s
  | .mvnShiftReg c sf sbz rd rs kind rm => Sys2Proof.Machine.execMvnShiftReg c sf sbz rd rs kind rm s
  | .mul c sf rd sbz rs rm => Sys2Proof.Machine.execMul c sf rd sbz rs rm s
  | .mla c sf rd rn rs rm => Sys2Proof.Machine.execMla c sf rd rn rs rm s
  | .umull c sf rdHi rdLo rs rm => Sys2Proof.Machine.execUmull c sf rdHi rdLo rs rm s
  | .umlal c sf rdHi rdLo rs rm => Sys2Proof.Machine.execUmlal c sf rdHi rdLo rs rm s
  | .smull c sf rdHi rdLo rs rm => Sys2Proof.Machine.execSmull c sf rdHi rdLo rs rm s
  | .smlal c sf rdHi rdLo rs rm => Sys2Proof.Machine.execSmlal c sf rdHi rdLo rs rm s
  | .clz c sboHi rd sboLo rm => Sys2Proof.Machine.execClz c sboHi rd sboLo rm s
  | .swp c rn rd sbz rm => Sys2Proof.Machine.execSwp c rn rd sbz rm s
  | .swpb c rn rd sbz rm => Sys2Proof.Machine.execSwpb c rn rd sbz rm s
  | .mrs c spsr sbo rd sbzHi sbzLo => Sys2Proof.Machine.execMrs c spsr sbo rd sbzHi sbzLo s
  | .msrReg c spsr fields sbo sbz rm => Sys2Proof.Machine.execMsrReg c spsr fields sbo sbz rm s
  | .msrImm c spsr fields sbo rot imm => Sys2Proof.Machine.execMsrImm c spsr fields sbo rot imm s
  | .bx c sbo rm => Sys2Proof.Machine.execBx c sbo rm s
  | .blxReg c sbo rm => Sys2Proof.Machine.execBlxReg c sbo rm s
  | .bkpt c immH immL => Sys2Proof.Machine.execBkpt c immH immL s
  | .strhImm c p u w rn rd immH immL => Sys2Proof.Machine.execStrhImm c p u w rn rd immH immL s
  | .strhReg c p u w rn rd sbz rm => Sys2Proof.Machine.execStrhReg c p u w rn rd sbz rm s
  | .ldrhImm c p u w rn rd immH immL => Sys2Proof.Machine.execLdrhImm c p u w rn rd immH immL s
  | .ldrhReg c p u w rn rd sbz rm => Sys2Proof.Machine.execLdrhReg c p u w rn rd sbz rm s
  | .ldrsbImm c p u w rn rd immH immL => Sys2Proof.Machine.execLdrsbImm c p u w rn rd immH immL s
  | .ldrsbReg c p u w rn rd sbz rm => Sys2Proof.Machine.execLdrsbReg c p u w rn rd sbz rm s
  | .ldrshImm c p u w rn rd immH immL => Sys2Proof.Machine.execLdrshImm c p u w rn rd immH immL s
  | .ldrshReg c p u w rn rd sbz rm => Sys2Proof.Machine.execLdrshReg c p u w rn rd sbz rm s
  | .ldrImm c u w rn rd imm => Sys2Proof.Machine.execLdrImm c u w rn rd imm s
  | .ldrImmPost c u rn rd imm => Sys2Proof.Machine.execLdrImmPost c u rn rd imm s
  | .ldrtImm c u rn rd imm => Sys2Proof.Machine.execLdrtImm c u rn rd imm s
  | .ldrReg c u w rn rd amount kind rm => Sys2Proof.Machine.execLdrReg c u w rn rd amount kind rm s
  | .ldrRegPost c u rn rd amount kind rm => Sys2Proof.Machine.execLdrRegPost c u rn rd amount kind rm s
  | .ldrtReg c u rn rd amount kind rm => Sys2Proof.Machine.execLdrtReg c u rn rd amount kind rm s
  | .strImm c u w rn rd imm => Sys2Proof.Machine.execStrImm c u w rn rd imm s
  | .strImmPost c u rn rd imm => Sys2Proof.Machine.execStrImmPost c u rn rd imm s
  | .strtImm c u rn rd imm => Sys2Proof.Machine.execStrtImm c u rn rd imm s
  | .strReg c u w rn rd amount kind rm => Sys2Proof.Machine.execStrReg c u w rn rd amount kind rm s
  | .strRegPost c u rn rd amount kind rm => Sys2Proof.Machine.execStrRegPost c u rn rd amount kind rm s
  | .strtReg c u rn rd amount kind rm => Sys2Proof.Machine.execStrtReg c u rn rd amount kind rm s
  | .ldrbImm c u w rn rd imm => Sys2Proof.Machine.execLdrbImm c u w rn rd imm s
  | .ldrbImmPost c u rn rd imm => Sys2Proof.Machine.execLdrbImmPost c u rn rd imm s
  | .ldrbtImm c u rn rd imm => Sys2Proof.Machine.execLdrbtImm c u rn rd imm s
  | .ldrbReg c u w rn rd amount kind rm => Sys2Proof.Machine.execLdrbReg c u w rn rd amount kind rm s
  | .ldrbRegPost c u rn rd amount kind rm => Sys2Proof.Machine.execLdrbRegPost c u rn rd amount kind rm s
  | .ldrbtReg c u rn rd amount kind rm => Sys2Proof.Machine.execLdrbtReg c u rn rd amount kind rm s
  | .strbImm c u w rn rd imm => Sys2Proof.Machine.execStrbImm c u w rn rd imm s
  | .strbImmPost c u rn rd imm => Sys2Proof.Machine.execStrbImmPost c u rn rd imm s
  | .strbtImm c u rn rd imm => Sys2Proof.Machine.execStrbtImm c u rn rd imm s
  | .strbReg c u w rn rd amount kind rm => Sys2Proof.Machine.execStrbReg c u w rn rd amount kind rm s
  | .strbRegPost c u rn rd amount kind rm => Sys2Proof.Machine.execStrbRegPost c u rn rd amount kind rm s
  | .strbtReg c u rn rd amount kind rm => Sys2Proof.Machine.execStrbtReg c u rn rd amount kind rm s
  | .ldm c p u w rn list => Sys2Proof.Machine.execLdm c p u w rn list s
  | .ldmUser c p u w rn list => Sys2Proof.Machine.execLdmUser c p u w rn list s
  | .ldmReturn c p u w rn list => Sys2Proof.Machine.execLdmReturn c p u w rn list s
  | .stm c p u w rn list => Sys2Proof.Machine.execStm c p u w rn list s
  | .stmUser c p u w rn list => Sys2Proof.Machine.execStmUser c p u w rn list s
  | .b c imm => Sys2Proof.Machine.execB c imm s
  | .bl c imm => Sys2Proof.Machine.execBl c imm s
  | .blxImm h imm => Sys2Proof.Machine.execBlxImm h imm s
  | .ldcOffset c u n w rn crd cp imm => Sys2Proof.Machine.execLdcOffset c u n w rn crd cp imm s
  | .ldcPostUp c n w rn crd cp imm => Sys2Proof.Machine.execLdcPostUp c n w rn crd cp imm s
  | .ldcPostDown c n rn crd cp imm => Sys2Proof.Machine.execLdcPostDown c n rn crd cp imm s
  | .stcOffset c u n w rn crd cp imm => Sys2Proof.Machine.execStcOffset c u n w rn crd cp imm s
  | .stcPostUp c n w rn crd cp imm => Sys2Proof.Machine.execStcPostUp c n w rn crd cp imm s
  | .stcPostDown c n rn crd cp imm => Sys2Proof.Machine.execStcPostDown c n rn crd cp imm s
  | .cdp c op1 crn crd cp op2 crm => Sys2Proof.Machine.execCdp c op1 crn crd cp op2 crm s
  | .mcr c op1 crn rd cp op2 crm => Sys2Proof.Machine.execMcr c op1 crn rd cp op2 crm s
  | .mrc c op1 crn rd cp op2 crm => Sys2Proof.Machine.execMrc c op1 crn rd cp op2 crm s
  | .swi c imm => Sys2Proof.Machine.execSwi c imm s

end Sys2Proof.Machine
end

