-- ==== Sys2Proof/Machine/Cycle.lean ====
section
/-! DEFINITION. One step of the processor (spec/40_execution_and_conditions.md R141): the inputs, the fetch, the decoded instruction or
the Undefined Instruction trap. -/

namespace Sys2Proof.Machine

/-- All three input lines low. -/
def linesLow : Lines := { reset := false, fiq := false, irq := false }

/-- The sample of the input lines this step sees (R420). Log 7. -/
def State.sample (s : State) : Lines :=
  match s.lines with
  | l :: _ => l
  | [] => linesLow

/-- The state once the sample has been taken. -/
def State.sampled (s : State) : State := { s with lines := s.lines.tail }

/-- A word that is no instruction (spec/49_coprocessor_and_undefined.md R360): with condition 1111 it never executes before v5T and is
undefined from v5T on (spec/30_encoding.md R129); otherwise it traps when its condition passes (R146). -/
def execUndefined (w : Word) (s : State) : Result :=
  match Cond.ofBits (nibble w 7) with
  | none => if s.cfg.archV5T then .next (takeException .undefined s) else skip s
  | some c => if conditionHolds c s.cpsr then .next (takeException .undefined s) else skip s

/-- In ARM state bits 1:0 of the pc are 0 always (spec/10_state.md R27, spec/20_memory.md R70). -/
def State.aligned (s : State) : State :=
  { s with pc := if s.pc.extractLsb' 0 2 = 0b00#2 then s.pc else if psrT s.cpsr then s.pc else s.pc &&& 0xFFFFFFFC }

/-- The end of a step: what the instruction answers, its pc as R27 and R70 keep it. Only a pc that an instruction's own rule leaves
misaligned in ARM state is changed: from v5T on, an LDM of a word with bits 1:0 = 0b10 into r15 (log 16) and, without Thumb support,
what asks for Thumb state (log 17). -/
def settle : Result → Result
  | .next t => .next t.aligned
  | .fault f => .fault f
  | .refused r => .refused r

/-- Decodes and executes a fetched word (R141 steps 6 to 9). -/
def execWord (w : Word) (s : State) : Result :=
  settle
    (match decode w with
    | .ok i => exec i s
    | .error _ => execUndefined w s)

/-- Steps 5 to 9 of R141, in ARM state with no exception to enter. Which word stands at a pc that is not word aligned the spec does not
say (spec/20_memory.md R64 is for aligned addresses, and R70 has no misaligned-fetch exception): a free value. DESIGN CHOICE, log 18. -/
def fetchAndExecute (s : State) : Result :=
  match fetch s with
  | none => .next (takeException .prefetchAbort s)
  | some w =>
    if s.pc.extractLsb' 0 2 = 0b00#2 then execWord w s
    else execWord (Config.drawWord s.draws) { s with draws := s.draws + 1 }

/-- Steps 1 to 4 of R141, in the order of R425, on a state whose sample has been taken. -/
def interrupted (l : Lines) (s : State) : Result :=
  if l.reset then .next (takeReset s)
  else if psrT s.cpsr then .refused .thumbState
  else if l.fiq && !psrF s.cpsr then .next (takeException .fiq s)
  else if l.irq && !psrI s.cpsr then .next (takeException .irq s)
  else fetchAndExecute s

/-- `Step()` of R141. -/
def cycle (s : State) : Result := interrupted s.sample s.sampled

end Sys2Proof.Machine
end

