-- ==== Sys2Proof/Machine/Step.lean ====
section
/-! DEFINITION. The step function and the placing of an instruction where the step fetches. -/

namespace Sys2Proof.Machine

/-- One step: one instruction or one exception entry (spec/40_execution_and_conditions.md R141, spec/70_reset_and_hazards.md R480). -/
def step (s : State) : Host.Outcome State Fault Refusal := cycle s

/-- The state with the instruction of bits `w` stored at the pc, its bytes in memory's order; nothing else changes. It stands for the
loading of a program from outside the machine (log 19). -/
def State.withFetchWord (s : State) (nbits w : Nat) : State := placeWord (BitVec.ofNat 32 (w % 2 ^ nbits)) s

end Sys2Proof.Machine
end

