-- ==== Sys2Proof/Safety.lean ====
section
/-! DEFINITION. When a run is finished (spec/40_execution_and_conditions.md R148, spec/92_eei_decisions.md D24) and when it is safe, in
the terms statements use. -/

namespace Sys2Proof.Machine

/-- The states the machine keeps to: CPSR[4:0] is a mode (spec/10_state.md R35), memory has its canonical form, the pc is word aligned
in ARM state (R27, spec/20_memory.md R70), and T is 0 without Thumb support (R34). -/
abbrev State.Inv (s : State) : Prop :=
  s.mode ≠ none ∧ s.mem.wf ∧ (psrT s.cpsr = false → s.pc.extractLsb' 0 2 = 0b00#2) ∧
    (s.cfg.hasThumb = false → psrT s.cpsr = false)

/-- Instruction `i` executes in `s` and none of its stops applies: its condition passes, the processor has it, its operands break no
restriction, and the registers it names may be accessed. -/
abbrev Ready (i : Instr) (s : State) : Prop :=
  runs i s = true ∧ present s.cfg i = true ∧ restriction i = none ∧ accessStop s (named i) = none

/-- No interrupt can be taken now: each is masked or every sample of its line still to come is low (R148). DESIGN CHOICE (log 25): no
sample of the reset line still to come is high either. R148 and D24 name the two interrupts only; without this clause a state with a
reset to come would be no fixed point of the step. -/
def State.quiet (s : State) : Bool :=
  (psrF s.cpsr || s.lines.all fun l => !l.fiq) && (psrI s.cpsr || s.lines.all fun l => !l.irq) &&
    s.lines.all fun l => !l.reset

/-- R148: the instruction at the pc is an unconditional branch to itself and no interrupt can be taken. There is such an instruction in
ARM state only (R142: a run that stops at Thumb state is not final), at an aligned pc, where the fetch does not abort. The machine itself
knows no end: it goes on executing that branch, `finished_step` of Laws/Cycle.lean (log 25). -/
def State.finished (s : State) : Bool :=
  !psrT s.cpsr && s.pc.extractLsb' 0 2 == 0b00#2 && fetch s == some 0xEAFFFFFE && s.quiet

/-- Some run of `n` steps from `s` reaches `t`. -/
def Reaches (n : Nat) (s t : State) : Prop := Sys2Proof.core.run n s = .next t

/-- No step of the first `n` from `s` is refused. -/
def SafeRun (n : Nat) (s : State) : Prop := ∀ k, k ≤ n → ∃ t, Reaches k s t

end Sys2Proof.Machine
end

