-- ==== Sys2Proof/Certificates/Slice0/Obligations.lean ====
section
/-! DEFINITION. The statements for the provers, and the vocabulary they are written in. Where a statement rests on a choice of the
model, its docstring names the log entry. -/

namespace Sys2Proof.Claims

open Sys2Proof.Machine

/-! ### Vocabulary -/

/-- What an ordinary instruction leaves alone: the parameters, the SPSRs, the inputs, and every general register but the pc and those
in `written`. The hazard of R471 is over. -/
abbrev Frame (s t : State) (written : List PhysReg) : Prop :=
  t.cfg = s.cfg ∧ t.spsr = s.spsr ∧ t.lines = s.lines ∧ t.userBankWindow = false ∧
    ∀ q, q ≠ .pc → q ∉ written → t.getPhys q = s.getPhys q

/-- Nothing passed to or from a coprocessor. -/
abbrev NoCoprocessor (s t : State) : Prop := t.cpReplies = s.cpReplies ∧ t.cpSent = s.cpSent

/-- Every byte of memory reads as before. -/
abbrev SameMemory (s t : State) : Prop := ∀ a, t.mem.read a = s.mem.read a

/-- Every byte of memory outside the `n` bytes at `a` reads as before. -/
abbrev SameMemoryBut (s t : State) (a : Word) (n : Nat) : Prop :=
  ∀ b, b < a.toNat ∨ a.toNat + n ≤ b → t.mem.read b = s.mem.read b

/-- The Data Abort exception has been entered from `s` (spec/60_exceptions.md R410, R411, R433): Abort mode, ARM state, I set, F and bits 31:8 of
the CPSR unchanged, the link and the old CPSR in R14_abt and SPSR_abt, the pc at the vector, no other SPSR changed. -/
abbrev DataAbortEntered (s t : State) : Prop :=
  t.cpsr = s.cpsr.extractLsb' 8 24 ++ 0b1#1 ++ bit (psrF s.cpsr) ++ 0b0#1 ++ 0b10111#5 ∧
    t.pc = (if s.cfg.highVectors then 0xFFFF0010 else 0x00000010) ∧ t.getPhys (.abt 1) = s.pc + 8 ∧
    t.spsr = { s.spsr with abt := s.cpsr } ∧ t.cfg = s.cfg ∧ t.lines = s.lines ∧ t.userBankWindow = false

/-- A status word with these four flags whose bits 27:0 are those of `p`. -/
abbrev FlagsAre (p p' : Word) (n z c v : Bool) : Prop :=
  psrN p' = n ∧ psrZ p' = z ∧ psrC p' = c ∧ psrV p' = v ∧ p'.extractLsb' 0 28 = p.extractLsb' 0 28

/-- The aligned word address of an access (R62, R63). -/
def wordAddress (a : Word) : Word := a &&& 0xFFFFFFFC

/-- The bit tests of the table of the Undefined Instruction encodings (spec/49_coprocessor_and_undefined.md R360), for words whose
condition is not 1111 and for a processor that has every optional instruction. -/
def undefinedArea (w : Word) : Bool :=
  (w.extractLsb' 25 3 == 0b011#3 && w.getLsbD 4) ||
  (w.extractLsb' 24 4 == 0b0000#4 && w.extractLsb' 4 4 == 0b1001#4 && w.extractLsb' 22 2 == 0b01#2) ||
  (w.extractLsb' 24 4 == 0b0001#4 && w.extractLsb' 4 4 == 0b1001#4 && !(!w.getLsbD 23 && w.extractLsb' 20 2 == 0b00#2)) ||
  (w.extractLsb' 25 3 == 0b000#3 && !w.getLsbD 20 && (w.extractLsb' 4 4 == 0b1101#4 || w.extractLsb' 4 4 == 0b1111#4)) ||
  (w.extractLsb' 23 5 == 0b00010#5 && !w.getLsbD 20 && !(w.getLsbD 7 && w.getLsbD 4) &&
    !(w.extractLsb' 4 4 == 0b0000#4) && !(w.extractLsb' 4 4 == 0b0001#4 && w.getLsbD 21) &&
    !(w.extractLsb' 4 4 == 0b0011#4 && w.extractLsb' 21 2 == 0b01#2) &&
    !(w.extractLsb' 4 4 == 0b0111#4 && w.extractLsb' 21 2 == 0b01#2)) ||
  (w.extractLsb' 23 5 == 0b00110#5 && w.extractLsb' 20 2 == 0b00#2) ||
  (w.extractLsb' 23 5 == 0b11000#5 && !w.getLsbD 21)

/-- The sixteen data-processing operations (R190). -/
inductive DpOp where
  | and | eor | sub | rsb | add | adc | sbc | rsc | tst | teq | cmp | cmn | orr | mov | bic | mvn
deriving DecidableEq, Repr

/-- The three forms of the second operand (R192 to R194). -/
inductive DpForm where
  | imm (rot : BitVec 4) (imm8 : BitVec 8)
  | shiftImm (amount : BitVec 5) (kind : ShiftKind) (rm : RegNo)
  | shiftReg (rs : RegNo) (kind : ShiftKind) (rm : RegNo)
deriving DecidableEq, Repr

/-- The instruction of an operation and a form; fields the operation does not have are should-be-zero fields with zeros. -/
def DpOp.instr (op : DpOp) (form : DpForm) (c : Cond) (sf : Bool) (rn rd : RegNo) : Instr :=
  match op, form with
  | .and, .imm rot imm8 => .andImm c sf rn rd rot imm8
  | .and, .shiftImm amount kind rm => .andShiftImm c sf rn rd amount kind rm
  | .and, .shiftReg rs kind rm => .andShiftReg c sf rn rd rs kind rm
  | .eor, .imm rot imm8 => .eorImm c sf rn rd rot imm8
  | .eor, .shiftImm amount kind rm => .eorShiftImm c sf rn rd amount kind rm
  | .eor, .shiftReg rs kind rm => .eorShiftReg c sf rn rd rs kind rm
  | .sub, .imm rot imm8 => .subImm c sf rn rd rot imm8
  | .sub, .shiftImm amount kind rm => .subShiftImm c sf rn rd amount kind rm
  | .sub, .shiftReg rs kind rm => .subShiftReg c sf rn rd rs kind rm
  | .rsb, .imm rot imm8 => .rsbImm c sf rn rd rot imm8
  | .rsb, .shiftImm amount kind rm => .rsbShiftImm c sf rn rd amount kind rm
  | .rsb, .shiftReg rs kind rm => .rsbShiftReg c sf rn rd rs kind rm
  | .add, .imm rot imm8 => .addImm c sf rn rd rot imm8
  | .add, .shiftImm amount kind rm => .addShiftImm c sf rn rd amount kind rm
  | .add, .shiftReg rs kind rm => .addShiftReg c sf rn rd rs kind rm
  | .adc, .imm rot imm8 => .adcImm c sf rn rd rot imm8
  | .adc, .shiftImm amount kind rm => .adcShiftImm c sf rn rd amount kind rm
  | .adc, .shiftReg rs kind rm => .adcShiftReg c sf rn rd rs kind rm
  | .sbc, .imm rot imm8 => .sbcImm c sf rn rd rot imm8
  | .sbc, .shiftImm amount kind rm => .sbcShiftImm c sf rn rd amount kind rm
  | .sbc, .shiftReg rs kind rm => .sbcShiftReg c sf rn rd rs kind rm
  | .rsc, .imm rot imm8 => .rscImm c sf rn rd rot imm8
  | .rsc, .shiftImm amount kind rm => .rscShiftImm c sf rn rd amount kind rm
  | .rsc, .shiftReg rs kind rm => .rscShiftReg c sf rn rd rs kind rm
  | .tst, .imm rot imm8 => .tstImm c rn 0 rot imm8
  | .tst, .shiftImm amount kind rm => .tstShiftImm c rn 0 amount kind rm
  | .tst, .shiftReg rs kind rm => .tstShiftReg c rn 0 rs kind rm
  | .teq, .imm rot imm8 => .teqImm c rn 0 rot imm8
  | .teq, .shiftImm amount kind rm => .teqShiftImm c rn 0 amount kind rm
  | .teq, .shiftReg rs kind rm => .teqShiftReg c rn 0 rs kind rm
  | .cmp, .imm rot imm8 => .cmpImm c rn 0 rot imm8
  | .cmp, .shiftImm amount kind rm => .cmpShiftImm c rn 0 amount kind rm
  | .cmp, .shiftReg rs kind rm => .cmpShiftReg c rn 0 rs kind rm
  | .cmn, .imm rot imm8 => .cmnImm c rn 0 rot imm8
  | .cmn, .shiftImm amount kind rm => .cmnShiftImm c rn 0 amount kind rm
  | .cmn, .shiftReg rs kind rm => .cmnShiftReg c rn 0 rs kind rm
  | .orr, .imm rot imm8 => .orrImm c sf rn rd rot imm8
  | .orr, .shiftImm amount kind rm => .orrShiftImm c sf rn rd amount kind rm
  | .orr, .shiftReg rs kind rm => .orrShiftReg c sf rn rd rs kind rm
  | .mov, .imm rot imm8 => .movImm c sf 0 rd rot imm8
  | .mov, .shiftImm amount kind rm => .movShiftImm c sf 0 rd amount kind rm
  | .mov, .shiftReg rs kind rm => .movShiftReg c sf 0 rd rs kind rm
  | .bic, .imm rot imm8 => .bicImm c sf rn rd rot imm8
  | .bic, .shiftImm amount kind rm => .bicShiftImm c sf rn rd amount kind rm
  | .bic, .shiftReg rs kind rm => .bicShiftReg c sf rn rd rs kind rm
  | .mvn, .imm rot imm8 => .mvnImm c sf 0 rd rot imm8
  | .mvn, .shiftImm amount kind rm => .mvnShiftImm c sf 0 rd amount kind rm
  | .mvn, .shiftReg rs kind rm => .mvnShiftReg c sf 0 rd rs kind rm

/-- The second operand of a form. -/
def DpForm.operand (s : State) : DpForm → Operand
  | .imm rot imm8 => immOperand rot imm8 (psrC s.cpsr)
  | .shiftImm amount kind rm => shiftImmOperand kind amount (s.reg rm) (psrC s.cpsr)
  | .shiftReg rs kind rm => shiftRegOperand kind (s.reg rs) (s.reg rm) (psrC s.cpsr)

/-- The operations that only set flags (R208 to R211). -/
def DpOp.isTest : DpOp → Bool
  | .tst => true | .teq => true | .cmp => true | .cmn => true
  | _ => false

/-- The logical operations (R191). -/
def DpOp.isLogical : DpOp → Bool
  | .and => true | .eor => true | .tst => true | .teq => true | .orr => true | .mov => true | .bic => true | .mvn => true
  | _ => false

/-- The effect column of R190 on 32-bit words; `c` is the carry flag. -/
def DpOp.result (op : DpOp) (rn op2 : Word) (c : Bool) : Word :=
  let carry : Word := if c then 1 else 0
  match op with
  | .and => rn &&& op2 | .tst => rn &&& op2
  | .eor => rn ^^^ op2 | .teq => rn ^^^ op2
  | .sub => rn - op2 | .cmp => rn - op2
  | .rsb => op2 - rn
  | .add => rn + op2 | .cmn => rn + op2
  | .adc => rn + op2 + carry
  | .sbc => rn - op2 + carry - 1
  | .rsc => op2 - rn + carry - 1
  | .orr => rn ||| op2
  | .mov => op2
  | .bic => rn &&& ~~~op2
  | .mvn => ~~~op2

/-- C after an arithmetic operation (R198 to R203, R210, R211, R214): the unsigned carry, for subtractions "no borrow". -/
def DpOp.carryOut (op : DpOp) (rn op2 : Word) (c : Bool) : Bool :=
  match op with
  | .add | .cmn => decide (2 ^ 32 ≤ rn.toNat + op2.toNat)
  | .adc => decide (2 ^ 32 ≤ rn.toNat + op2.toNat + c.toNat)
  | .sub | .cmp => decide (op2.toNat ≤ rn.toNat)
  | .rsb => decide (rn.toNat ≤ op2.toNat)
  | .sbc => decide (op2.toNat + 1 ≤ rn.toNat + c.toNat)
  | .rsc => decide (rn.toNat + 1 ≤ op2.toNat + c.toNat)
  | _ => c

/-- The exact signed value of an arithmetic operation. -/
def DpOp.exact (op : DpOp) (rn op2 : Word) (c : Bool) : Int :=
  match op with
  | .add | .cmn => rn.toInt + op2.toInt
  | .adc => rn.toInt + op2.toInt + (c.toNat : Int)
  | .sub | .cmp => rn.toInt - op2.toInt
  | .rsb => op2.toInt - rn.toInt
  | .sbc => rn.toInt - op2.toInt + (c.toNat : Int) - 1
  | .rsc => op2.toInt - rn.toInt + (c.toNat : Int) - 1
  | _ => 0

/-- V after an arithmetic operation (R9, R214): the exact signed value does not fit 32 bits. -/
def DpOp.overflowOut (op : DpOp) (rn op2 : Word) (c : Bool) : Bool :=
  decide (op.exact rn op2 c < -2 ^ 31 ∨ 2 ^ 31 - 1 < op.exact rn op2 c)

/-- The flags an operation sets (R191). -/
def DpOp.FlagsSet (op : DpOp) (s : State) (rn : Word) (o : Operand) (p' : Word) : Prop :=
  let c := psrC s.cpsr
  let r := op.result rn o.value c
  FlagsAre s.cpsr p' (r.getLsbD 31) (r == 0)
    (if op.isLogical then o.carry else op.carryOut rn o.value c)
    (if op.isLogical then psrV s.cpsr else op.overflowOut rn o.value c)

/-- The long multiplies (R240). -/
inductive LongOp where
  | umull | umlal | smull | smlal
deriving DecidableEq, Repr

def LongOp.instr (op : LongOp) (c : Cond) (sf : Bool) (rdHi rdLo rs rm : RegNo) : Instr :=
  match op with
  | .umull => .umull c sf rdHi rdLo rs rm
  | .umlal => .umlal c sf rdHi rdLo rs rm
  | .smull => .smull c sf rdHi rdLo rs rm
  | .smlal => .smlal c sf rdHi rdLo rs rm

/-- The 64-bit result of a long multiply (R243, R244, R247, R248), with `acc` the pair RdHi:RdLo. -/
def LongOp.result (op : LongOp) (rm rs : Word) (acc : BitVec 64) : BitVec 64 :=
  match op with
  | .umull => rm.setWidth 64 * rs.setWidth 64
  | .umlal => rm.setWidth 64 * rs.setWidth 64 + acc
  | .smull => rm.signExtend 64 * rs.signExtend 64
  | .smlal => rm.signExtend 64 * rs.signExtend 64 + acc

/-- The word and byte transfers (R260). -/
inductive SingleOp where
  | ldr | str | ldrb | strb
deriving DecidableEq, Repr

/-- Offset or pre-indexed (`w` the write-back), post-indexed, and the T form (R261). -/
inductive SingleForm where
  | offset (w : Bool)
  | post
  | user
deriving DecidableEq, Repr

/-- The two offsets of R265. -/
inductive SingleOffset where
  | imm (v : BitVec 12)
  | reg (amount : BitVec 5) (kind : ShiftKind) (rm : RegNo)
deriving DecidableEq, Repr

def SingleOp.instr (op : SingleOp) (form : SingleForm) (off : SingleOffset) (c : Cond) (u : Bool) (rn rd : RegNo) : Instr :=
  match op, form, off with
  | .ldr, .offset w, .imm v => .ldrImm c u w rn rd v
  | .ldr, .offset w, .reg amount kind rm => .ldrReg c u w rn rd amount kind rm
  | .ldr, .post, .imm v => .ldrImmPost c u rn rd v
  | .ldr, .post, .reg amount kind rm => .ldrRegPost c u rn rd amount kind rm
  | .ldr, .user, .imm v => .ldrtImm c u rn rd v
  | .ldr, .user, .reg amount kind rm => .ldrtReg c u rn rd amount kind rm
  | .str, .offset w, .imm v => .strImm c u w rn rd v
  | .str, .offset w, .reg amount kind rm => .strReg c u w rn rd amount kind rm
  | .str, .post, .imm v => .strImmPost c u rn rd v
  | .str, .post, .reg amount kind rm => .strRegPost c u rn rd amount kind rm
  | .str, .user, .imm v => .strtImm c u rn rd v
  | .str, .user, .reg amount kind rm => .strtReg c u rn rd amount kind rm
  | .ldrb, .offset w, .imm v => .ldrbImm c u w rn rd v
  | .ldrb, .offset w, .reg amount kind rm => .ldrbReg c u w rn rd amount kind rm
  | .ldrb, .post, .imm v => .ldrbImmPost c u rn rd v
  | .ldrb, .post, .reg amount kind rm => .ldrbRegPost c u rn rd amount kind rm
  | .ldrb, .user, .imm v => .ldrbtImm c u rn rd v
  | .ldrb, .user, .reg amount kind rm => .ldrbtReg c u rn rd amount kind rm
  | .strb, .offset w, .imm v => .strbImm c u w rn rd v
  | .strb, .offset w, .reg amount kind rm => .strbReg c u w rn rd amount kind rm
  | .strb, .post, .imm v => .strbImmPost c u rn rd v
  | .strb, .post, .reg amount kind rm => .strbRegPost c u rn rd amount kind rm
  | .strb, .user, .imm v => .strbtImm c u rn rd v
  | .strb, .user, .reg amount kind rm => .strbtReg c u rn rd amount kind rm

/-- The value of an offset (R265). -/
def SingleOffset.value (s : State) : SingleOffset → Word
  | .imm v => v.setWidth 32
  | .reg amount kind rm => scaledOffset kind amount (s.reg rm) (psrC s.cpsr)

/-- Address, write-back and new base of a form: the function the meanings use (`AddrMode2`, R265), at the P and W of the form (R261). -/
def SingleForm.transfer (form : SingleForm) (off : SingleOffset) (u : Bool) (rn : RegNo) (s : State) : Transfer :=
  match form with
  | .offset w => addrMode2 true u w (s.reg rn) (off.value s)
  | .post => addrMode2 false u false (s.reg rn) (off.value s)
  | .user => addrMode2 false u true (s.reg rn) (off.value s)

/-- The privilege of the access (R62, R270). -/
def SingleForm.priv (form : SingleForm) (s : State) : Bool :=
  match form with
  | .user => false
  | _ => s.privileged

def SingleOp.width : SingleOp → Width
  | .ldr => .word | .str => .word | .ldrb => .byte | .strb => .byte

/-- The halfword and signed transfers (R290). -/
inductive HalfOp where
  | ldrh | ldrsb | ldrsh | strh
deriving DecidableEq, Repr

/-- The two offsets of R291. -/
inductive HalfOffset where
  | imm (h l : BitVec 4)
  | reg (rm : RegNo)
deriving DecidableEq, Repr

def HalfOp.instr (op : HalfOp) (off : HalfOffset) (c : Cond) (p u w : Bool) (rn rd : RegNo) : Instr :=
  match op, off with
  | .ldrh, .imm h l => .ldrhImm c p u w rn rd h l
  | .ldrh, .reg rm => .ldrhReg c p u w rn rd 0 rm
  | .ldrsb, .imm h l => .ldrsbImm c p u w rn rd h l
  | .ldrsb, .reg rm => .ldrsbReg c p u w rn rd 0 rm
  | .ldrsh, .imm h l => .ldrshImm c p u w rn rd h l
  | .ldrsh, .reg rm => .ldrshReg c p u w rn rd 0 rm
  | .strh, .imm h l => .strhImm c p u w rn rd h l
  | .strh, .reg rm => .strhReg c p u w rn rd 0 rm

/-- Address, write-back and new base: the function the meanings use (`AddrMode3`, R291). -/
def HalfOffset.transfer (off : HalfOffset) (p u w : Bool) (rn : RegNo) (s : State) : Transfer :=
  addrMode3 p u w (s.reg rn)
    (match off with
    | .imm h l => splitOffset h l
    | .reg rm => s.reg rm)

def HalfOp.width : HalfOp → Width
  | .ldrh => .half | .ldrsb => .byte | .ldrsh => .half | .strh => .half

/-- The word of a load, by the low address bits (spec/20_memory.md R65). -/
def rotatedByTable (address w : Word) : Word :=
  match address.toNat % 4 with
  | 0 => w
  | 1 => w.rotateRight 8
  | 2 => w.rotateRight 16
  | _ => w.rotateRight 24

/-- The base register after a completed transfer. -/
abbrev BaseAfter (s t : State) (tr : Transfer) (rn : RegNo) : Prop :=
  tr.writeback = true → t.getPhys (s.phys rn) = tr.target

/-- The registers a load writes: the destination and, with write-back, the base. -/
def loadWrites (s : State) (tr : Transfer) (rn rd : RegNo) : List PhysReg :=
  if tr.writeback then [s.phys rd, s.phys rn] else [s.phys rd]

/-- The registers a store writes: the base, with write-back. -/
def storeWrites (s : State) (tr : Transfer) (rn : RegNo) : List PhysReg := if tr.writeback then [s.phys rn] else []

/-- The base register after an aborted transfer (R277, R320, R435): its old value, or the new base where it is written back under the base
updated model. (Where the base is the link register of Abort mode the entry has written it.) -/
abbrev BaseAfterAbort (s t : State) (writeback : Bool) (target : Word) (rn : RegNo) : Prop :=
  s.phys rn ≠ .pc → s.phys rn ≠ .abt 1 → t.getPhys (s.phys rn) =
    (if writeback = true ∧ s.cfg.abortModel = .baseUpdated then target else s.getPhys (s.phys rn))

/-- The words of a list written one after the other from `a` up, each at its aligned address (R313, R69). -/
def storeWords : List Word → Word → Memory → Memory
  | [], _, m => m
  | v :: vs, a, m => storeWords vs (a + 4) (m.writeBytes (wordAddress a).toNat v 4)

/-- The address of word `k` of a block transfer. -/
def blockAddress (start : Word) (k : Nat) : Word := start + BitVec.ofNat 32 (4 * k)

/-- None of `n` words from `start` up aborts for this kind of access. -/
abbrev noAbort (s : State) (kind : AccessKind) (start : Word) (n : Nat) : Prop :=
  ∀ k < n, memAbort s.cfg (wordAddress (blockAddress start k)) .word kind s.privileged = false

/-- No byte of the word at `a` is device space. -/
abbrev plainWord (s : State) (a : Word) : Prop := touchesDevice s.cfg (wordAddress a).toNat .word = false

/-- The loaded words of a block transfer are memory's, where memory is no device (a device answers with a free value, log 6). -/
abbrev BlockValue (s : State) (start : Word) (k : Nat) (v : Word) : Prop :=
  plainWord s (blockAddress start k) → v = s.mem.readWord (wordAddress (blockAddress start k)).toNat

/-- The coprocessor instructions, which a coprocessor is asked about before anything else (R351). -/
def isCoprocessor : Instr → Option (BitVec 4)
  | .ldcOffset _ _ _ _ _ _ cp _ => some cp
  | .ldcPostUp _ _ _ _ _ cp _ => some cp
  | .ldcPostDown _ _ _ _ cp _ => some cp
  | .stcOffset _ _ _ _ _ _ cp _ => some cp
  | .stcPostUp _ _ _ _ _ cp _ => some cp
  | .stcPostDown _ _ _ _ cp _ => some cp
  | .cdp _ _ _ _ cp _ _ => some cp
  | .mcr _ _ _ _ cp _ _ => some cp
  | .mrc _ _ _ _ cp _ _ => some cp
  | _ => none

/-- The three addressing forms of LDC and STC (R126). -/
inductive CpForm where
  | offset (u w : Bool)
  | postUp (w : Bool)
  | postDown
deriving DecidableEq, Repr

def CpForm.ldc (form : CpForm) (c : Cond) (n : Bool) (rn : RegNo) (crd cp : BitVec 4) (imm : BitVec 8) : Instr :=
  match form with
  | .offset u w => .ldcOffset c u n w rn crd cp imm
  | .postUp w => .ldcPostUp c n w rn crd cp imm
  | .postDown => .ldcPostDown c n rn crd cp imm

def CpForm.stc (form : CpForm) (c : Cond) (n : Bool) (rn : RegNo) (crd cp : BitVec 4) (imm : BitVec 8) : Instr :=
  match form with
  | .offset u w => .stcOffset c u n w rn crd cp imm
  | .postUp w => .stcPostUp c n w rn crd cp imm
  | .postDown => .stcPostDown c n rn crd cp imm

/-- The address formation of R353, the function the meanings use. -/
def CpForm.transfer (form : CpForm) (rn : RegNo) (imm : BitVec 8) (s : State) : Transfer :=
  match form with
  | .offset u w => cpTransfer true u w (s.reg rn) imm
  | .postUp w => cpTransfer false true w (s.reg rn) imm
  | .postDown => cpTransfer false false true (s.reg rn) imm

/-- The three forms of LDM (R312, R315, R316). -/
inductive LdmForm where
  | current (list : BitVec 16)
  | userBank (list : BitVec 15)
  | exceptionReturn (list : BitVec 15)
deriving DecidableEq, Repr

def LdmForm.instr (form : LdmForm) (c : Cond) (p u w : Bool) (rn : RegNo) : Instr :=
  match form with
  | .current list => .ldm c p u w rn list
  | .userBank list => .ldmUser c p u w rn list
  | .exceptionReturn list => .ldmReturn c p u w rn list

/-- The registers of the transfer, the lowest first; LDM (3) always has r15. -/
def LdmForm.regs : LdmForm → List RegNo
  | .current list => listedRegs list
  | .userBank list => listedRegs list
  | .exceptionReturn list => listedRegs list ++ [15]

/-- The mode whose bank is loaded. -/
def LdmForm.bankMode (form : LdmForm) (s : State) : Option Mode :=
  match form with
  | .userBank _ => some .user
  | _ => s.mode

/-- The mode lets the form run (R315, R316). -/
def LdmForm.allowed (form : LdmForm) (s : State) : Prop :=
  match form with
  | .current _ => True
  | .userBank _ => s.mode ≠ some .user ∧ s.mode ≠ some .system
  | .exceptionReturn _ => s.currentSpsr ≠ none

/-- The instructions that do not write r15 and are no branch, SWI or BKPT: after them execution goes on at the next word (R28). -/
inductive Sequential : Instr → Prop where
  | data (op : DpOp) (form : DpForm) c sf rn rd : op.isTest = true ∨ rd ≠ 15 → Sequential (op.instr form c sf rn rd)
  | mul c sf rd sbz rs rm : Sequential (.mul c sf rd sbz rs rm)
  | mla c sf rd rn rs rm : Sequential (.mla c sf rd rn rs rm)
  | long (op : LongOp) c sf rdHi rdLo rs rm : Sequential (op.instr c sf rdHi rdLo rs rm)
  | clz c h rd l rm : Sequential (.clz c h rd l rm)
  | swp c rn rd sbz rm : Sequential (.swp c rn rd sbz rm)
  | swpb c rn rd sbz rm : Sequential (.swpb c rn rd sbz rm)
  | mrs c r sbo rd h l : Sequential (.mrs c r sbo rd h l)
  | msrReg c r f sbo sbz rm : Sequential (.msrReg c r f sbo sbz rm)
  | msrImm c r f sbo rot imm : Sequential (.msrImm c r f sbo rot imm)
  | single (op : SingleOp) (form : SingleForm) (off : SingleOffset) c u rn rd : op ≠ .ldr ∨ rd ≠ 15 →
      Sequential (op.instr form off c u rn rd)
  | half (op : HalfOp) (off : HalfOffset) c p u w rn rd : Sequential (op.instr off c p u w rn rd)
  | ldm c p u w rn (list : BitVec 16) : list.getLsbD 15 = false → Sequential (.ldm c p u w rn list)
  | ldmUser c p u w rn list : Sequential (.ldmUser c p u w rn list)
  | stm c p u w rn list : Sequential (.stm c p u w rn list)
  | stmUser c p u w rn list : Sequential (.stmUser c p u w rn list)
  | ldc (form : CpForm) c n rn crd cp imm : Sequential (form.ldc c n rn crd cp imm)
  | stc (form : CpForm) c n rn crd cp imm : Sequential (form.stc c n rn crd cp imm)
  | cdp c op1 crn crd cp op2 crm : Sequential (.cdp c op1 crn crd cp op2 crm)
  | mcr c op1 crn rd cp op2 crm : Sequential (.mcr c op1 crn rd cp op2 crm)
  | mrc c op1 crn rd cp op2 crm : Sequential (.mrc c op1 crn rd cp op2 crm)

/-- The step ends without a successor, or in the Data Abort exception. -/
abbrev RefusedOrAborted (i : Instr) (s : State) : Prop :=
  (∃ why, exec i s = .refused (.unpredictable why)) ∨ ∃ t, exec i s = .next t ∧ DataAbortEntered s t

/-- The mode and the vector of each exception (R400, R401). -/
def entryRow : ExceptionKind → Mode × Word
  | .reset => (.supervisor, 0x00000000)
  | .undefined => (.undefined, 0x00000004)
  | .softwareInterrupt => (.supervisor, 0x00000008)
  | .prefetchAbort => (.abort, 0x0000000C)
  | .dataAbort => (.abort, 0x00000010)
  | .irq => (.irq, 0x00000018)
  | .fiq => (.fiq, 0x0000001C)

/-- `ConditionPassed` of R145 on the four bits of a condition. -/
def conditionPassed (b : BitVec 4) (p : Word) : Bool :=
  let r :=
    match (b.extractLsb' 1 3).toNat with
    | 0 => psrZ p
    | 1 => psrC p
    | 2 => psrN p
    | 3 => psrV p
    | 4 => psrC p && !psrZ p
    | 5 => psrN p == psrV p
    | 6 => psrN p == psrV p && !psrZ p
    | _ => true
  if b.getLsbD 0 && b != 0b1111 then !r else r

/-- The step takes no event: no reset, no unmasked interrupt, ARM state, an aligned pc (R141 steps 1 to 4). -/
abbrev NoEvent (s : State) : Prop :=
  s.sample.reset = false ∧ psrT s.cpsr = false ∧ (s.sample.fiq && !psrF s.cpsr) = false ∧
    (s.sample.irq && !psrI s.cpsr) = false ∧ s.pc.extractLsb' 0 2 = 0b00#2

end Sys2Proof.Claims

open Sys2Proof Sys2Proof.Machine Sys2Proof.Claims

/-! ### Encoding -/

/-- Decoding the encoding of any instruction gives it back, every operand at every value (R102 to R127). -/
def Obligations.DecodeAfterEncode : Prop := ∀ i : Instr, decode (encode i) = .ok i

/-- A word that decodes to an instruction is the encoding of that instruction: no bit is dropped (R102 to R127). -/
def Obligations.EncodeAfterDecode : Prop := ∀ (w : Word) (i : Instr), decode w = .ok i → encode i = w

/-- Words of the spec's examples decode to the instructions they stand for. -/
def Obligations.ExampleWordsDecode : Prop :=
  decode 0xE25BB001 = .ok (.subImm .al true 11 11 0 1) ∧
  decode 0xE0810312 = .ok (.addShiftReg .al false 1 0 3 .lsl 2) ∧
  decode 0xE02AA190 = .ok (.mla .al false 10 10 1 0) ∧
  decode 0x051E8004 = .ok (.ldrImm .eq false false 14 8 4) ∧
  decode 0x115E80B2 = .ok (.ldrhImm .ne true false false 14 8 0 2) ∧
  decode 0xE8FD8000 = .ok (.ldmReturn .al false true true 13 0) ∧
  decode 0xEE2ACF83 = .ok (.cdp .al 2 10 12 15 4 3)

/-- The words with a condition that are no instruction are those of the table of R360 that are "always" undefined, and of the words
with condition 1111 those that are not BLX (immediate). -/
def Obligations.UndefinedEncodingsAreTheTable : Prop :=
  ∀ w : Word,
    (nibble w 7 ≠ 0b1111 → ((∃ e, decode w = .error e) ↔ undefinedArea w = true)) ∧
    (nibble w 7 = 0b1111 → ((∃ e, decode w = .error e) ↔ w.extractLsb' 25 3 ≠ 0b101#3))

/-! ### State -/

/-- `Bank(i, m)` of R22: the physical register of every register number in every mode; where M is no mode, r13 and r14 are
UNPREDICTABLE and an instruction that names one is stopped. -/
def Obligations.BankedRegisters : Prop :=
  (∀ (m : Option Mode) (r : RegNo),
    (∀ i : Fin 15, r.toNat = i.val → i.val ≤ 7 → bank m r = .usr i) ∧
    (r = 15 → bank m r = .pc) ∧
    (∀ i : Fin 7, r.toNat = i.val + 8 → bank (some .fiq) r = .fiq i) ∧
    (∀ i : Fin 15, r.toNat = i.val → i.val ≤ 12 → m ≠ some .fiq → bank m r = .usr i) ∧
    (∀ i : Fin 2, r.toNat = i.val + 13 →
      bank (some .irq) r = .irq i ∧ bank (some .supervisor) r = .svc i ∧ bank (some .abort) r = .abt i ∧
      bank (some .undefined) r = .und i) ∧
    (∀ i : Fin 15, r.toNat = i.val → bank (some .user) r = .usr i ∧ bank (some .system) r = .usr i)) ∧
  (∀ (s : State) (regs : List RegNo), s.mode = none → (13 ∈ regs ∨ 14 ∈ regs) → accessStop s regs = some .illegalMode)

/-- A register written reads back in the same mode, the other registers of the mode keep their values, a write in one bank leaves
every other physical register, and r15 reads as the pc plus 8 (R23, R29). -/
def Obligations.RegisterWritesReadBack : Prop :=
  ∀ (s : State) (r : RegNo) (v : Word),
    s.reg 15 = s.pc + 8 ∧
    (r ≠ 15 → (s.setReg r v).reg r = v ∧ (∀ r', r' ≠ r → (s.setReg r v).reg r' = s.reg r') ∧
      ∀ q, q ≠ s.phys r → (s.setReg r v).getPhys q = s.getPhys q)

/-- `ConditionPassed` (R145) for every code of a condition field, and the table of R144 row by row; code 1111 is no condition of the
decoder, it is handled before the test. -/
def Obligations.ConditionTable : Prop :=
  (∀ (b : BitVec 4) (p : Word), b ≠ 0b1111 → ∃ c, Cond.ofBits b = some c ∧ conditionHolds c p = conditionPassed b p) ∧
  Cond.ofBits 0b1111 = none ∧
  ∀ p : Word,
    (conditionHolds .eq p ↔ psrZ p = true) ∧ (conditionHolds .ne p ↔ psrZ p = false) ∧
    (conditionHolds .cs p ↔ psrC p = true) ∧ (conditionHolds .cc p ↔ psrC p = false) ∧
    (conditionHolds .mi p ↔ psrN p = true) ∧ (conditionHolds .pl p ↔ psrN p = false) ∧
    (conditionHolds .vs p ↔ psrV p = true) ∧ (conditionHolds .vc p ↔ psrV p = false) ∧
    (conditionHolds .hi p ↔ psrC p = true ∧ psrZ p = false) ∧ (conditionHolds .ls p ↔ psrC p = false ∨ psrZ p = true) ∧
    (conditionHolds .ge p ↔ psrN p = psrV p) ∧ (conditionHolds .lt p ↔ psrN p ≠ psrV p) ∧
    (conditionHolds .gt p ↔ psrZ p = false ∧ psrN p = psrV p) ∧
    (conditionHolds .le p ↔ psrZ p = true ∨ psrN p ≠ psrV p) ∧ conditionHolds .al p = true

/-- The values the spec gives at reset: Supervisor mode, ARM state, both interrupts masked, the pc at the normal reset vector (R44). -/
def Obligations.ResetValues : Prop :=
  State.reset.mode = some .supervisor ∧ psrT State.reset.cpsr = false ∧ psrF State.reset.cpsr = true ∧
    psrI State.reset.cpsr = true ∧ State.reset.pc = State.reset.vector .reset ∧ State.reset.cfg.highVectors = false

/-- The invariant holds right after reset. -/
def Obligations.ResetKeepsTheInvariant : Prop := State.reset.Inv

/-- Every step keeps the invariant: a legal mode (R35), canonical memory (log 1), a word-aligned pc in ARM state (R27, R70), and T = 0
without Thumb support (R34; log 17). -/
def Obligations.StepKeepsTheInvariant : Prop := ∀ s t : State, s.Inv → step s = .next t → t.Inv

/-- No step changes a parameter (R43), and a step takes exactly one sample of the input lines (R420). -/
def Obligations.StepKeepsParametersTakesOneSample : Prop :=
  ∀ s t : State, step s = .next t → t.cfg = s.cfg ∧ t.lines = s.lines.tail

/-- From User mode a step stays in User mode with I, F and bits 23:8 of the CPSR as they are, or it enters an exception: the mode and vector
of one of the seven, I set, T clear and, but for Reset, the CPSR saved (R440: there is no other way out of User mode). -/
def Obligations.UserModeLeavesOnlyByException : Prop :=
  ∀ s t : State, s.mode = some .user → step s = .next t →
    (t.mode = some .user ∧ psrI t.cpsr = psrI s.cpsr ∧ psrF t.cpsr = psrF s.cpsr ∧
      t.cpsr.extractLsb' 8 16 = s.cpsr.extractLsb' 8 16) ∨
    ∃ e : ExceptionKind, t.mode = some e.mode ∧ t.pc = s.vector e ∧ psrI t.cpsr = true ∧ psrT t.cpsr = false ∧
      (e ≠ .reset → t.currentSpsr = some s.cpsr)

/-! ### Exceptions and the step -/

/-- The entry procedure (R410) of each of the seven exceptions: the link of R411 and the old CPSR in the banked r14 and the SPSR of the mode
entered (for Reset neither holds a defined value, D28, and nothing is said of them), the new mode, T = 0, I = 1, F = 1 for Reset and FIQ
and unchanged otherwise, bits 31:8 of the CPSR unchanged, the pc at the vector, no other register written, nothing pushed to memory. -/
def Obligations.ExceptionEntry : Prop :=
  ∀ (e : ExceptionKind) (s : State),
    let t := if e = .reset then takeReset s else takeException e s
    let mode := (entryRow e).1
    let vector := (entryRow e).2
    (e ≠ .reset → t.getPhys (bank (some mode) 14) = s.pc + (if e = .dataAbort then 8 else 4) ∧ t.currentSpsr = some s.cpsr) ∧
    t.mode = some mode ∧ psrT t.cpsr = false ∧ psrI t.cpsr = true ∧
    psrF t.cpsr = (if e = .reset ∨ e = .fiq then true else psrF s.cpsr) ∧
    t.cpsr.extractLsb' 8 24 = s.cpsr.extractLsb' 8 24 ∧
    t.pc = vector + (if s.cfg.highVectors then 0xFFFF0000 else 0) ∧
    (∀ q, q ≠ .pc → q ≠ bank (some mode) 14 → t.getPhys q = s.getPhys q) ∧
    (∀ m : Mode, m ≠ mode → { t with cpsr := m.bits.setWidth 32 }.currentSpsr = { s with cpsr := m.bits.setWidth 32 }.currentSpsr) ∧
    t.mem = s.mem ∧ t.cfg = s.cfg ∧ t.lines = s.lines ∧ t.cpReplies = s.cpReplies ∧ t.cpSent = s.cpSent

/-- The order of the events of a step (R141, R425): Reset before all, then the refusal in Thumb state, FIQ, IRQ, and a fetch that
aborts. At a pc that is not word aligned, which no run reaches, the step runs some word, a free value (the model's choice, log 18). -/
def Obligations.StepTakesEventsInOrder : Prop :=
  ∀ s : State,
    let calm := s.sample.reset = false ∧ psrT s.cpsr = false ∧ (s.sample.fiq && !psrF s.cpsr) = false ∧
      (s.sample.irq && !psrI s.cpsr) = false
    (s.sample.reset = true → step s = .next (takeReset s.sampled)) ∧
    (s.sample.reset = false → psrT s.cpsr = true → step s = .refused .thumbState) ∧
    (s.sample.reset = false → psrT s.cpsr = false → s.sample.fiq = true → psrF s.cpsr = false →
      step s = .next (takeException .fiq s.sampled)) ∧
    (s.sample.reset = false → psrT s.cpsr = false → (s.sample.fiq && !psrF s.cpsr) = false → s.sample.irq = true →
      psrI s.cpsr = false → step s = .next (takeException .irq s.sampled)) ∧
    (calm → memAbort s.cfg s.pc .word .fetch s.privileged = true → step s = .next (takeException .prefetchAbort s.sampled)) ∧
    (calm → memAbort s.cfg s.pc .word .fetch s.privileged = false → s.pc.extractLsb' 0 2 ≠ 0b00#2 →
      ∃ w, step s = execWord w { s.sampled with draws := s.draws + 1 })

/-- Reset during a run (R412): the mode, masks, state bit and pc it sets; every register but R14_svc, the flags, the unused bits,
memory and every SPSR but SPSR_svc stay (log 20). R14_svc and SPSR_svc are free values: nothing is said of them. -/
def Obligations.ResetLineEntry : Prop :=
  ∀ s : State, s.sample.reset = true → ∃ t, step s = .next t ∧ t.mode = some .supervisor ∧ psrT t.cpsr = false ∧
    psrF t.cpsr = true ∧ psrI t.cpsr = true ∧ t.pc = (if s.cfg.highVectors then 0xFFFF0000 else 0) ∧
    t.cpsr.extractLsb' 8 24 = s.cpsr.extractLsb' 8 24 ∧ t.mem = s.mem ∧
    (∀ q, q ≠ .pc → q ≠ .svc 1 → t.getPhys q = s.getPhys q) ∧
    t.spsr.fiq = s.spsr.fiq ∧ t.spsr.abt = s.spsr.abt ∧ t.spsr.irq = s.spsr.irq ∧ t.spsr.und = s.spsr.und

/-- A step whose fetched word decodes to an instruction is that instruction's meaning on the state whose input sample has been
taken (R141 steps 5 to 9; the meaning itself tests the condition and moves the pc). Where the meaning leaves ARM state with a pc that is
not word aligned, which R27 and R70 exclude, the step clears its bits 1:0 (logs 16, 17). -/
def Obligations.StepRunsTheDecodedInstruction : Prop :=
  ∀ (s : State) (w : Word) (i : Instr), NoEvent s → fetch s = some w → decode w = .ok i →
    (∀ t, exec i s.sampled = .next t → step s =
      (if psrT t.cpsr = true ∨ t.pc.extractLsb' 0 2 = 0b00#2 then .next t else .next { t with pc := t.pc.extractLsb' 2 30 ++ 0b00#2 })) ∧
    (∀ why, exec i s.sampled = .refused why → step s = .refused why)

/-- A fetched word whose condition fails, instruction or not, changes nothing but the pc, whatever it is (R146); an aborted fetch is
not subject to any condition. -/
def Obligations.FailedConditionOnlyAdvances : Prop :=
  (∀ (s : State) (w : Word) (c : Cond), NoEvent s → fetch s = some w → Cond.ofBits (nibble w 7) = some c →
    conditionHolds c s.cpsr = false → s.pc.toNat < 0xFFFFFFFC →
    step s = .next { s.sampled with pc := s.pc + 4, userBankWindow := false }) ∧
  (∀ s : State, NoEvent s → fetch s = none → step s = .next (takeException .prefetchAbort s.sampled))

/-- Sequential execution does not pass 0xFFFFFFFC (R28). At a pc whose next word is past the top an instruction whose condition fails, and a
data-processing instruction that does not write r15, are refused for that reason, whatever they would have written; every other
instruction after which execution would go on at the next word has no successor either, unless it takes the Data Abort exception; a
coprocessor instruction once it is accepted. -/
def Obligations.NoAdvancePastTheTop : Prop :=
  (∀ (s : State) (i : Instr), 0xFFFFFFFC ≤ s.pc.toNat → runs i s = false → exec i s = .refused (.unpredictable .pastTop)) ∧
  (∀ (op : DpOp) (form : DpForm) (c : Cond) (sf : Bool) (rn rd : RegNo) (s : State), 0xFFFFFFFC ≤ s.pc.toNat →
    (op.isTest = true ∨ rd ≠ 15) → Ready (op.instr form c sf rn rd) s →
    exec (op.instr form c sf rn rd) s = .refused (.unpredictable .pastTop)) ∧
  (∀ (i : Instr) (s : State), 0xFFFFFFFC ≤ s.pc.toNat → Sequential i → Ready i s → isCoprocessor i = none → RefusedOrAborted i s) ∧
  (∀ (i : Instr) (cp : BitVec 4) (v : Word) (vs : List Word) (s s1 : State), 0xFFFFFFFC ≤ s.pc.toNat → Sequential i → Ready i s →
    isCoprocessor i = some cp → cp ∈ s.cfg.coprocs → cpAnswer cp (encode i) s = (.accepts v vs, s1) → RefusedOrAborted i s)

/-- A fetched word that is no instruction takes the Undefined Instruction exception when its condition passes (R360), and a word with
condition 1111 that is not BLX (immediate) takes it from v5T on and is passed over before (R129). -/
def Obligations.UndefinedWordsTrap : Prop :=
  ∀ (s : State) (w : Word) (e : DecodeError), NoEvent s → fetch s = some w → decode w = .error e →
    (∀ c, Cond.ofBits (nibble w 7) = some c → conditionHolds c s.cpsr = true →
      step s = .next (takeException .undefined s.sampled)) ∧
    (nibble w 7 = 0b1111 → s.cfg.archV5T = true → step s = .next (takeException .undefined s.sampled)) ∧
    (nibble w 7 = 0b1111 → s.cfg.archV5T = false → s.pc.toNat < 0xFFFFFFFC →
      step s = .next { s.sampled with pc := s.pc + 4, userBankWindow := false })

/-- An instruction the processor does not have takes the Undefined Instruction exception when its condition passes: BX without Thumb
support; BLX (register), CLZ and BKPT before v5T; the long multiplies without the M variant (R132, R167, R250). -/
def Obligations.AbsentInstructionsTrap : Prop :=
  (∀ (i : Instr) (s : State), runs i s = true → present s.cfg i = false → exec i s = .next (takeException .undefined s)) ∧
  ∀ cfg : Config,
    (cfg.hasThumb = false → ∀ c sbo rm, present cfg (.bx c sbo rm) = false) ∧
    (cfg.archV5T = false → (∀ c sbo rm, present cfg (.blxReg c sbo rm) = false) ∧
      (∀ c h rd l rm, present cfg (.clz c h rd l rm) = false) ∧ ∀ c h l, present cfg (.bkpt c h l) = false) ∧
    (cfg.hasLongMul = false → ∀ (op : LongOp) c sf rdHi rdLo rs rm, present cfg (op.instr c sf rdHi rdLo rs rm) = false)

/-- What the spec calls UNPREDICTABLE is refused and nothing else is done (R13): the operand restrictions, and the access of r8 to r14
by the instruction after an LDM of the User bank (R471). A coprocessor instruction is first offered to its coprocessor. -/
def Obligations.RestrictedOperandsAreRefused : Prop :=
  (∀ (i : Instr) (s : State) (why : Unpredictable), isCoprocessor i = none → runs i s = true → present s.cfg i = true →
    restriction i = some why → exec i s = .refused (.unpredictable why)) ∧
  (∀ (i : Instr) (s : State), isCoprocessor i = none → runs i s = true → present s.cfg i = true → restriction i = none →
    s.mode ≠ none → s.userBankWindow = true → (∃ r ∈ named i, 8 ≤ r.toNat ∧ r.toNat ≤ 14) →
    exec i s = .refused (.unpredictable .bankedAfterUserLoad))

/-- The operand restrictions of the data-processing instructions, the multiplies, CLZ, the swaps, the status register instructions and
the branches are those of R195, R246, R249, R330, R333, R335, R164, R165, R112 and the should-be fields of R133, in every operand form. -/
def Obligations.RestrictionsOutsideTransfers : Prop :=
  (∀ (op : DpOp) (rs : RegNo) kind rm c sf rn rd, restriction (op.instr (.shiftReg rs kind rm) c sf rn rd) = none ↔
    (rs ≠ 15 ∧ rm ≠ 15 ∧ (op ≠ .mov → op ≠ .mvn → rn ≠ 15) ∧ (op.isTest = false → rd ≠ 15))) ∧
  (∀ (op : DpOp) rot imm8 c sf rn rd, restriction (op.instr (.imm rot imm8) c sf rn rd) = none) ∧
  (∀ (op : DpOp) amount kind rm c sf rn rd, restriction (op.instr (.shiftImm amount kind rm) c sf rn rd) = none) ∧
  (∀ c rn sbz rot imm8, (restriction (.tstImm c rn sbz rot imm8) = none ↔ sbz = 0) ∧
    (restriction (.teqImm c rn sbz rot imm8) = none ↔ sbz = 0) ∧ (restriction (.cmpImm c rn sbz rot imm8) = none ↔ sbz = 0) ∧
    (restriction (.cmnImm c rn sbz rot imm8) = none ↔ sbz = 0)) ∧
  (∀ c sf sbz rd rot imm8, (restriction (.movImm c sf sbz rd rot imm8) = none ↔ sbz = 0) ∧
    (restriction (.mvnImm c sf sbz rd rot imm8) = none ↔ sbz = 0)) ∧
  (∀ c rn sbz amount kind rm, (restriction (.tstShiftImm c rn sbz amount kind rm) = none ↔ sbz = 0) ∧
    (restriction (.teqShiftImm c rn sbz amount kind rm) = none ↔ sbz = 0) ∧
    (restriction (.cmpShiftImm c rn sbz amount kind rm) = none ↔ sbz = 0) ∧
    (restriction (.cmnShiftImm c rn sbz amount kind rm) = none ↔ sbz = 0)) ∧
  (∀ c sf sbz rd amount kind rm, (restriction (.movShiftImm c sf sbz rd amount kind rm) = none ↔ sbz = 0) ∧
    (restriction (.mvnShiftImm c sf sbz rd amount kind rm) = none ↔ sbz = 0)) ∧
  (∀ c rn sbz rs kind rm,
    (restriction (.tstShiftReg c rn sbz rs kind rm) = none ↔ sbz = 0 ∧ rn ≠ 15 ∧ rs ≠ 15 ∧ rm ≠ 15) ∧
    (restriction (.teqShiftReg c rn sbz rs kind rm) = none ↔ sbz = 0 ∧ rn ≠ 15 ∧ rs ≠ 15 ∧ rm ≠ 15) ∧
    (restriction (.cmpShiftReg c rn sbz rs kind rm) = none ↔ sbz = 0 ∧ rn ≠ 15 ∧ rs ≠ 15 ∧ rm ≠ 15) ∧
    (restriction (.cmnShiftReg c rn sbz rs kind rm) = none ↔ sbz = 0 ∧ rn ≠ 15 ∧ rs ≠ 15 ∧ rm ≠ 15)) ∧
  (∀ c sf sbz rd rs kind rm,
    (restriction (.movShiftReg c sf sbz rd rs kind rm) = none ↔ sbz = 0 ∧ rd ≠ 15 ∧ rs ≠ 15 ∧ rm ≠ 15) ∧
    (restriction (.mvnShiftReg c sf sbz rd rs kind rm) = none ↔ sbz = 0 ∧ rd ≠ 15 ∧ rs ≠ 15 ∧ rm ≠ 15)) ∧
  (∀ c sf rd sbz rs rm, restriction (.mul c sf rd sbz rs rm) = none ↔
    (sbz = 0 ∧ rd ≠ 15 ∧ rs ≠ 15 ∧ rm ≠ 15 ∧ rd ≠ rm)) ∧
  (∀ c sf rd rn rs rm, restriction (.mla c sf rd rn rs rm) = none ↔ (rd ≠ 15 ∧ rn ≠ 15 ∧ rs ≠ 15 ∧ rm ≠ 15 ∧ rd ≠ rm)) ∧
  (∀ (op : LongOp) c sf rdHi rdLo rs rm, restriction (op.instr c sf rdHi rdLo rs rm) = none ↔
    (rdHi ≠ 15 ∧ rdLo ≠ 15 ∧ rs ≠ 15 ∧ rm ≠ 15 ∧ rdHi ≠ rm ∧ rdLo ≠ rm ∧ rdHi ≠ rdLo)) ∧
  (∀ c h rd l rm, restriction (.clz c h rd l rm) = none ↔ (h = 15 ∧ l = 15 ∧ rd ≠ 15 ∧ rm ≠ 15)) ∧
  (∀ c rn rd sbz rm, restriction (.swp c rn rd sbz rm) = none ↔
    (sbz = 0 ∧ rn ≠ 15 ∧ rd ≠ 15 ∧ rm ≠ 15 ∧ rn ≠ rm ∧ rn ≠ rd)) ∧
  (∀ c rn rd sbz rm, restriction (.swpb c rn rd sbz rm) = restriction (.swp c rn rd sbz rm)) ∧
  (∀ c r sbo rd h l, restriction (.mrs c r sbo rd h l) = none ↔ (sbo = 15 ∧ h = 0 ∧ l = 0 ∧ rd ≠ 15)) ∧
  (∀ c r f sbo sbz rm, restriction (.msrReg c r f sbo sbz rm) = none ↔ (sbo = 15 ∧ sbz = 0 ∧ rm ≠ 15)) ∧
  (∀ c r f sbo rot imm, restriction (.msrImm c r f sbo rot imm) = none ↔ sbo = 15) ∧
  (∀ c sbo rm, restriction (.bx c sbo rm) = none ↔ sbo = 0xFFF) ∧
  (∀ c sbo rm, restriction (.blxReg c sbo rm) = none ↔ (sbo = 0xFFF ∧ rm ≠ 15)) ∧
  (∀ c h l, restriction (.bkpt c h l) = none ↔ c = .al)

/-- The operand restrictions of the transfers are those of R267, R291, R296, R318, R315, R317 and R353, and the should-be-zero field of the
halfword transfers with a register offset (R133, R117). -/
def Obligations.RestrictionsOfTransfers : Prop :=
  (∀ (op : SingleOp) (form : SingleForm) v c u rn rd, restriction (op.instr form (.imm v) c u rn rd) = none ↔
    (((form = .offset false) ∨ (rn ≠ 15 ∧ rd ≠ rn)) ∧ ((op.width = .byte ∨ form = .user) → rd ≠ 15))) ∧
  (∀ (op : SingleOp) (form : SingleForm) amount kind rm c u rn rd,
    restriction (op.instr form (.reg amount kind rm) c u rn rd) = none ↔
    (((form = .offset false) ∨ (rn ≠ 15 ∧ rd ≠ rn ∧ rm ≠ rn)) ∧ ((op.width = .byte ∨ form = .user) → rd ≠ 15) ∧ rm ≠ 15)) ∧
  (∀ (op : HalfOp) h l c p u w rn rd, restriction (op.instr (.imm h l) c p u w rn rd) = none ↔
    ((p = true ∨ w = false) ∧ rd ≠ 15 ∧ ((p = true ∧ w = false) ∨ (rn ≠ 15 ∧ rd ≠ rn)))) ∧
  (∀ (op : HalfOp) rm c p u w rn rd, restriction (op.instr (.reg rm) c p u w rn rd) = none ↔
    ((p = true ∨ w = false) ∧ rd ≠ 15 ∧ rm ≠ 15 ∧ ((p = true ∧ w = false) ∨ (rn ≠ 15 ∧ rd ≠ rn ∧ rm ≠ rn)))) ∧
  (∀ c p u w rn rd sbz rm, sbz ≠ 0 → restriction (.strhReg c p u w rn rd sbz rm) = some .shouldBeField ∧
    restriction (.ldrhReg c p u w rn rd sbz rm) = some .shouldBeField ∧
    restriction (.ldrsbReg c p u w rn rd sbz rm) = some .shouldBeField ∧
    restriction (.ldrshReg c p u w rn rd sbz rm) = some .shouldBeField) ∧
  (∀ c p u w rn list, restriction (.ldm c p u w rn list) = none ↔
    (list ≠ 0 ∧ rn ≠ 15 ∧ (w = true → list.getLsbD rn.toNat = false))) ∧
  (∀ c p u w rn list, restriction (.stm c p u w rn list) = none ↔
    (list ≠ 0 ∧ rn ≠ 15 ∧ (w = true → list.getLsbD rn.toNat = true → ∀ k < rn.toNat, list.getLsbD k = false))) ∧
  (∀ c p u w rn list, restriction (.ldmUser c p u w rn list) = none ↔ (list ≠ 0 ∧ rn ≠ 15 ∧ w = false)) ∧
  (∀ c p u w rn list, restriction (.stmUser c p u w rn list) = none ↔ (list ≠ 0 ∧ rn ≠ 15 ∧ w = false)) ∧
  (∀ c p u w rn list, restriction (.ldmReturn c p u w rn list) = none ↔
    (rn ≠ 15 ∧ (w = true → list.getLsbD rn.toNat = false))) ∧
  (∀ (form : CpForm) c n rn crd cp imm, (restriction (form.ldc c n rn crd cp imm) = none ↔
    (rn = 15 → form = .postUp false ∨ ∃ u, form = .offset u false)) ∧
    restriction (form.stc c n rn crd cp imm) = restriction (form.ldc c n rn crd cp imm))

/-! ### Operands -/

/-- Memory accesses (R60, R62, R63): a store followed by a load of the same width and address gives the low bytes stored, every byte
outside the access reads as before, and nothing else changes. -/
def Obligations.StoreThenLoadGivesTheBytes : Prop :=
  ∀ (w : Width) (addr v : Word) (priv : Bool) (s t : State), s.mem.wf → memWrite w addr v priv s = .done t →
    (∃ a, accessAddress s.cfg w addr = some a ∧ t = { s with mem := t.mem } ∧ t.mem.wf ∧ SameMemoryBut s t a (Width.bytes w) ∧
      (∀ k < Width.bytes w, t.mem.read (a.toNat + k) = v.extractLsb' (8 * k) 8) ∧
      (touchesDevice s.cfg a.toNat w = false → memAbort s.cfg a w .read priv = false →
        memRead w addr priv t = .done (v &&& BitVec.ofNat 32 (2 ^ (8 * Width.bytes w) - 1), t)))

/-- The operand forms without a register amount: the immediate (R192), an 8-bit value rotated right by twice the rotation, with its
carry-out; and the table of the shifts by an immediate (R193), whose value column is the offset of the transfers (R265). -/
def Obligations.ImmediateOperandsFollowTheTables : Prop :=
  (∀ (rot : BitVec 4) (imm : BitVec 8) (c : Bool),
    (immOperand rot imm c).value = (imm.setWidth 32 : Word).rotateRight (2 * rot.toNat) ∧
    (immOperand rot imm c).carry =
      (if rot = 0 then c else ((imm.setWidth 32 : Word).rotateRight (2 * rot.toNat)).getLsbD 31)) ∧
  ∀ (n : BitVec 5) (rm : Word) (c : Bool),
    (n = 0 → shiftImmOperand .lsl n rm c = ⟨rm, c⟩ ∧ shiftImmOperand .lsr n rm c = ⟨0, rm.getLsbD 31⟩ ∧
      shiftImmOperand .asr n rm c = ⟨if rm.getLsbD 31 then 0xFFFFFFFF else 0, rm.getLsbD 31⟩ ∧
      shiftImmOperand .ror n rm c = ⟨BitVec.ofBool c ++ rm.extractLsb' 1 31, rm.getLsbD 0⟩) ∧
    (n ≠ 0 → shiftImmOperand .lsl n rm c = ⟨rm <<< n.toNat, rm.getLsbD (32 - n.toNat)⟩ ∧
      shiftImmOperand .lsr n rm c = ⟨rm >>> n.toNat, rm.getLsbD (n.toNat - 1)⟩ ∧
      shiftImmOperand .asr n rm c = ⟨rm.sshiftRight n.toNat, rm.getLsbD (n.toNat - 1)⟩ ∧
      shiftImmOperand .ror n rm c = ⟨rm.rotateRight n.toNat, rm.getLsbD (n.toNat - 1)⟩) ∧
    ∀ kind, scaledOffset kind n rm c = (shiftImmOperand kind n rm c).value

/-- The table of the shifts by a register (R194): only the low byte of Rs counts. -/
def Obligations.ShiftByRegisterTable : Prop :=
  ∀ (rs rm : Word) (c : Bool),
    let n := (rs.extractLsb' 0 8).toNat
    (n = 0 → ∀ kind, shiftRegOperand kind rs rm c = ⟨rm, c⟩) ∧
    (1 ≤ n → n ≤ 31 → shiftRegOperand .lsl rs rm c = ⟨rm <<< n, rm.getLsbD (32 - n)⟩ ∧
      shiftRegOperand .lsr rs rm c = ⟨rm >>> n, rm.getLsbD (n - 1)⟩ ∧
      shiftRegOperand .asr rs rm c = ⟨rm.sshiftRight n, rm.getLsbD (n - 1)⟩) ∧
    (n = 32 → shiftRegOperand .lsl rs rm c = ⟨0, rm.getLsbD 0⟩ ∧ shiftRegOperand .lsr rs rm c = ⟨0, rm.getLsbD 31⟩) ∧
    (33 ≤ n → shiftRegOperand .lsl rs rm c = ⟨0, false⟩ ∧ shiftRegOperand .lsr rs rm c = ⟨0, false⟩) ∧
    (32 ≤ n → shiftRegOperand .asr rs rm c = ⟨if rm.getLsbD 31 then 0xFFFFFFFF else 0, rm.getLsbD 31⟩) ∧
    (n ≠ 0 → n % 32 = 0 → shiftRegOperand .ror rs rm c = ⟨rm, rm.getLsbD 31⟩) ∧
    (n % 32 ≠ 0 → shiftRegOperand .ror rs rm c = ⟨rm.rotateRight (n % 32), rm.getLsbD (n % 32 - 1)⟩)

/-! ### Data processing -/

/-- AND, EOR, ORR, MOV, BIC, MVN into a register below r15, all three operand forms (R191, R196, R197, R204 to R207): the result, the flags
with S, and everything else unchanged. -/
def Obligations.LogicalOperationsComplete : Prop :=
  ∀ (op : DpOp) (form : DpForm) (c : Cond) (sf : Bool) (rn rd : RegNo) (s : State),
    op.isLogical = true → op.isTest = false → Ready (op.instr form c sf rn rd) s → rd ≠ 15 → s.pc.toNat < 0xFFFFFFFC →
    ∃ t, exec (op.instr form c sf rn rd) s = .next t ∧
      t.getPhys (s.phys rd) = op.result (s.reg rn) (form.operand s).value (psrC s.cpsr) ∧ t.pc = s.pc + 4 ∧
      (sf = false → t.cpsr = s.cpsr) ∧ (sf = true → op.FlagsSet s (s.reg rn) (form.operand s) t.cpsr) ∧
      Frame s t [s.phys rd] ∧ NoCoprocessor s t ∧ SameMemory s t

/-- SUB, RSB, ADD, ADC, SBC, RSC into a register below r15, all three operand forms (R191, R198 to R203): the result modulo 2^32, with S the
carry or no-borrow and the signed overflow of the exact value, and everything else unchanged. -/
def Obligations.ArithmeticOperationsComplete : Prop :=
  ∀ (op : DpOp) (form : DpForm) (c : Cond) (sf : Bool) (rn rd : RegNo) (s : State),
    op.isLogical = false → op.isTest = false → Ready (op.instr form c sf rn rd) s → rd ≠ 15 → s.pc.toNat < 0xFFFFFFFC →
    ∃ t, exec (op.instr form c sf rn rd) s = .next t ∧
      t.getPhys (s.phys rd) = op.result (s.reg rn) (form.operand s).value (psrC s.cpsr) ∧ t.pc = s.pc + 4 ∧
      (sf = false → t.cpsr = s.cpsr) ∧ (sf = true → op.FlagsSet s (s.reg rn) (form.operand s) t.cpsr) ∧
      Frame s t [s.phys rd] ∧ NoCoprocessor s t ∧ SameMemory s t

/-- TST, TEQ, CMP, CMN, all three operand forms (R208 to R211): only the flags are written, always. -/
def Obligations.TestsSetTheFlags : Prop :=
  ∀ (op : DpOp) (form : DpForm) (c : Cond) (sf : Bool) (rn rd : RegNo) (s : State),
    op.isTest = true → Ready (op.instr form c sf rn rd) s → s.pc.toNat < 0xFFFFFFFC →
    ∃ t, exec (op.instr form c sf rn rd) s = .next t ∧ t.pc = s.pc + 4 ∧
      op.FlagsSet s (s.reg rn) (form.operand s) t.cpsr ∧ Frame s t [] ∧ NoCoprocessor s t ∧ SameMemory s t

/-- A data-processing result written to r15 with S = 0 (R212): a branch to an aligned result, UNPREDICTABLE otherwise; the flags and T
stay. -/
def Obligations.DataProcessingBranches : Prop :=
  ∀ (op : DpOp) (form : DpForm) (c : Cond) (rn : RegNo) (s : State),
    op.isTest = false → Ready (op.instr form c false rn 15) s →
    let r := op.result (s.reg rn) (form.operand s).value (psrC s.cpsr)
    (r.extractLsb' 0 2 = 0b00#2 → ∃ t, exec (op.instr form c false rn 15) s = .next t ∧ t.pc = r ∧ t.cpsr = s.cpsr ∧
      Frame s t [] ∧ NoCoprocessor s t ∧ SameMemory s t) ∧
    (r.extractLsb' 0 2 ≠ 0b00#2 → exec (op.instr form c false rn 15) s = .refused (.unpredictable .misalignedPcResult))

/-- A data-processing result written to r15 with S = 1 (R213): the exception return. The SPSR goes to the CPSR whole and the result to
the pc; without an SPSR, or with an SPSR that holds no mode, UNPREDICTABLE. An ARM-state return to a misaligned address is refused
(the model's choice, log 15). -/
def Obligations.DataProcessingExceptionReturn : Prop :=
  ∀ (op : DpOp) (form : DpForm) (c : Cond) (rn : RegNo) (s : State),
    op.isTest = false → s.cfg.hasThumb = true → Ready (op.instr form c true rn 15) s →
    let i := op.instr form c true rn 15
    let r := op.result (s.reg rn) (form.operand s).value (psrC s.cpsr)
    (s.currentSpsr = none → exec i s = .refused (.unpredictable .noSpsr)) ∧
    ∀ p, s.currentSpsr = some p →
      (Mode.ofBits (psrMode p) = none → exec i s = .refused (.unpredictable .writesNonMode)) ∧
      (Mode.ofBits (psrMode p) ≠ none → psrT p = false → r.extractLsb' 0 2 ≠ 0b00#2 →
        exec i s = .refused (.unpredictable .misalignedPcResult)) ∧
      (Mode.ofBits (psrMode p) ≠ none → (psrT p = true ∨ r.extractLsb' 0 2 = 0b00#2) →
        ∃ t, exec i s = .next t ∧ t.pc = r ∧ t.cpsr = p ∧ Frame s t [] ∧ NoCoprocessor s t ∧ SameMemory s t)

/-! ### Multiplies and CLZ -/

/-- MUL and MLA (R241, R242, R245): the low 32 bits of the product, N and Z with S, V unchanged; C is a free value with S, of which
nothing is said (log 8). -/
def Obligations.MultipliesComplete : Prop :=
  ∀ (c : Cond) (sf : Bool) (rd rn rs rm : RegNo) (s : State), s.pc.toNat < 0xFFFFFFFC →
    (Ready (.mul c sf rd 0 rs rm) s → ∃ t, exec (.mul c sf rd 0 rs rm) s = .next t ∧
      t.getPhys (s.phys rd) = s.reg rm * s.reg rs ∧ t.pc = s.pc + 4 ∧ (sf = false → t.cpsr = s.cpsr) ∧
      (sf = true → FlagsAre s.cpsr t.cpsr ((s.reg rm * s.reg rs).getLsbD 31) (s.reg rm * s.reg rs == 0) (psrC t.cpsr)
        (psrV s.cpsr)) ∧ Frame s t [s.phys rd] ∧ NoCoprocessor s t ∧ SameMemory s t) ∧
    (Ready (.mla c sf rd rn rs rm) s → ∃ t, exec (.mla c sf rd rn rs rm) s = .next t ∧
      t.getPhys (s.phys rd) = s.reg rm * s.reg rs + s.reg rn ∧ t.pc = s.pc + 4 ∧ (sf = false → t.cpsr = s.cpsr) ∧
      (sf = true → FlagsAre s.cpsr t.cpsr ((s.reg rm * s.reg rs + s.reg rn).getLsbD 31)
        (s.reg rm * s.reg rs + s.reg rn == 0) (psrC t.cpsr) (psrV s.cpsr)) ∧
      Frame s t [s.phys rd] ∧ NoCoprocessor s t ∧ SameMemory s t)

/-- UMULL, UMLAL, SMULL, SMLAL (R243 to R245, R247, R248): the pair RdHi:RdLo holds the 64-bit result; N, Z with S over 64 bits; V
unchanged; C a free value with S (log 8). -/
def Obligations.LongMultipliesComplete : Prop :=
  ∀ (op : LongOp) (c : Cond) (sf : Bool) (rdHi rdLo rs rm : RegNo) (s : State),
    Ready (op.instr c sf rdHi rdLo rs rm) s → s.pc.toNat < 0xFFFFFFFC →
    let r := op.result (s.reg rm) (s.reg rs) (s.reg rdHi ++ s.reg rdLo)
    ∃ t, exec (op.instr c sf rdHi rdLo rs rm) s = .next t ∧
      t.getPhys (s.phys rdHi) ++ t.getPhys (s.phys rdLo) = r ∧ t.pc = s.pc + 4 ∧ (sf = false → t.cpsr = s.cpsr) ∧
      (sf = true → FlagsAre s.cpsr t.cpsr (r.getLsbD 63) (r == 0) (psrC t.cpsr) (psrV s.cpsr)) ∧
      Frame s t [s.phys rdHi, s.phys rdLo] ∧ NoCoprocessor s t ∧ SameMemory s t

/-- CLZ (R249): the number of zero bits above the most significant one, 32 for zero. -/
def Obligations.ClzCountsLeadingZeros : Prop :=
  ∀ (c : Cond) (rd rm : RegNo) (s : State), Ready (.clz c 15 rd 15 rm) s → s.pc.toNat < 0xFFFFFFFC →
    ∃ t n, exec (.clz c 15 rd 15 rm) s = .next t ∧ t.getPhys (s.phys rd) = BitVec.ofNat 32 n ∧
      (s.reg rm = 0 → n = 32) ∧
      (s.reg rm ≠ 0 → n ≤ 31 ∧ 2 ^ (31 - n) ≤ (s.reg rm).toNat ∧ (s.reg rm).toNat < 2 ^ (32 - n)) ∧
      t.pc = s.pc + 4 ∧ t.cpsr = s.cpsr ∧ Frame s t [s.phys rd] ∧ NoCoprocessor s t ∧ SameMemory s t

/-! ### Swap and status registers -/

/-- SWP and SWPB (R330, R331): the old value of memory goes to Rd, rotated as LDR rotates it, and Rm's value to memory, unless that
changes one of the next two instruction words (R472); an aborted read or write takes the Data Abort exception (R433) and leaves memory
and every register but its link. -/
def Obligations.SwapsExchange : Prop :=
  ∀ (c : Cond) (rn rd rm : RegNo) (byte : Bool) (s : State),
    let i : Instr := if byte then .swpb c rn rd 0 rm else .swp c rn rd 0 rm
    let w : Width := if byte then .byte else .word
    let a := if byte then s.reg rn else wordAddress (s.reg rn)
    let m := s.mem.writeBytes a.toNat (s.reg rm) (Width.bytes w)
    Ready i s →
    (memAbort s.cfg a w .read s.privileged = false → memAbort s.cfg a w .write s.privileged = false →
      (pipelineChanged s.pc s.mem m = false → s.pc.toNat < 0xFFFFFFFC → ∃ t, exec i s = .next t ∧
        t.getPhys (s.phys rd) = (if byte then s.dataValue a.toNat .byte else
          rotatedByTable (s.reg rn) (s.dataValue a.toNat .word)) ∧
        t.mem = m ∧ SameMemoryBut s t a (Width.bytes w) ∧ t.pc = s.pc + 4 ∧ t.cpsr = s.cpsr ∧ Frame s t [s.phys rd] ∧
        NoCoprocessor s t) ∧
      (pipelineChanged s.pc s.mem m = true → exec i s = .refused (.unpredictable .storeIntoPipeline))) ∧
    (memAbort s.cfg a w .read s.privileged = true ∨ memAbort s.cfg a w .write s.privileged = true →
      ∃ t, exec i s = .next t ∧ DataAbortEntered s t ∧ NoCoprocessor s t ∧ t.mem = s.mem ∧
        ∀ q, q ≠ .pc → q ≠ .abt 1 → t.getPhys q = s.getPhys q)

/-- MRS (R333): Rd takes the CPSR, in every mode, or the SPSR of the current mode; without an SPSR, UNPREDICTABLE. -/
def Obligations.MrsReadsTheStatus : Prop :=
  ∀ (c : Cond) (spsr : Bool) (rd : RegNo) (s : State), Ready (.mrs c spsr 15 rd 0 0) s →
    (∀ p, (if spsr then s.currentSpsr else some s.cpsr) = some p → s.pc.toNat < 0xFFFFFFFC →
      ∃ t, exec (.mrs c spsr 15 rd 0 0) s = .next t ∧ t.getPhys (s.phys rd) = p ∧ t.pc = s.pc + 4 ∧ t.cpsr = s.cpsr ∧
        Frame s t [s.phys rd] ∧ NoCoprocessor s t ∧ SameMemory s t) ∧
    (spsr = true → s.currentSpsr = none → exec (.mrs c spsr 15 rd 0 0) s = .refused (.unpredictable .noSpsr))

/-- MSR to the CPSR, both operand forms (R335, R336, R338, R39): each selected byte takes the operand's byte, in User mode the f byte only;
changing T, or leaving no mode in M, is UNPREDICTABLE. -/
def Obligations.MsrWritesTheCpsr : Prop :=
  ∀ (c : Cond) (fields : BitVec 4) (i : Instr) (operand : Word) (s : State),
    ((∃ rm, i = .msrReg c false fields 15 0 rm ∧ operand = s.reg rm) ∨
      ∃ rot imm, i = .msrImm c false fields 15 rot imm ∧ operand = (imm.setWidth 32 : Word).rotateRight (2 * rot.toNat)) →
    Ready i s → s.pc.toNat < 0xFFFFFFFC →
    let writes : Nat → Bool := fun k => fields.getLsbD k && (s.privileged || k == 3)
    (writes 0 = true → operand.getLsbD 5 ≠ psrT s.cpsr → exec i s = .refused (.unpredictable .msrChangesT)) ∧
    (writes 0 = true → operand.getLsbD 5 = psrT s.cpsr → Mode.ofBits (psrMode operand) = none →
      exec i s = .refused (.unpredictable .writesNonMode)) ∧
    ((writes 0 = true → operand.getLsbD 5 = psrT s.cpsr ∧ Mode.ofBits (psrMode operand) ≠ none) →
      ∃ t, exec i s = .next t ∧
        (∀ k < 4, t.cpsr.extractLsb' (8 * k) 8 = (if writes k then operand else s.cpsr).extractLsb' (8 * k) 8) ∧
        t.pc = s.pc + 4 ∧ Frame s t [] ∧ NoCoprocessor s t ∧ SameMemory s t)

/-- MSR to the SPSR, both operand forms (R335, R336, R338): each selected byte of the current mode's SPSR takes the operand's byte, whatever
mode bits it holds; without an SPSR, UNPREDICTABLE. -/
def Obligations.MsrWritesTheSpsr : Prop :=
  ∀ (c : Cond) (fields : BitVec 4) (i : Instr) (operand : Word) (s : State),
    ((∃ rm, i = .msrReg c true fields 15 0 rm ∧ operand = s.reg rm) ∨
      ∃ rot imm, i = .msrImm c true fields 15 rot imm ∧ operand = (imm.setWidth 32 : Word).rotateRight (2 * rot.toNat)) →
    Ready i s →
    (s.currentSpsr = none → exec i s = .refused (.unpredictable .noSpsr)) ∧
    ∀ p, s.currentSpsr = some p → s.pc.toNat < 0xFFFFFFFC →
      ∃ t p', exec i s = .next t ∧ t.currentSpsr = some p' ∧
        (∀ k < 4, p'.extractLsb' (8 * k) 8 = (if fields.getLsbD k then operand else p).extractLsb' (8 * k) 8) ∧
        t = { s with spsr := t.spsr, pc := s.pc + 4, userBankWindow := false } ∧
        (∀ m : Mode, s.mode ≠ some m →
          { t with cpsr := m.bits.setWidth 32 }.currentSpsr = { s with cpsr := m.bits.setWidth 32 }.currentSpsr)

/-! ### Branches, SWI and BKPT -/

/-- B and BL (R161, R162): the target is the pc plus 8 plus four times the signed offset; BL leaves the next address in r14. -/
def Obligations.BranchesGoToTheTarget : Prop :=
  ∀ (c : Cond) (imm : BitVec 24) (s : State),
    let target := BitVec.ofInt 32 ((s.pc.toNat : Int) + 8 + 4 * imm.toInt)
    (Ready (.b c imm) s → ∃ t, exec (.b c imm) s = .next t ∧ t.pc = target ∧ t.cpsr = s.cpsr ∧ Frame s t [] ∧
      NoCoprocessor s t ∧ SameMemory s t) ∧
    (Ready (.bl c imm) s → ∃ t, exec (.bl c imm) s = .next t ∧ t.pc = target ∧ t.getPhys (s.phys 14) = s.pc + 4 ∧
      t.cpsr = s.cpsr ∧ Frame s t [s.phys 14] ∧ NoCoprocessor s t ∧ SameMemory s t)

/-- BX, BLX (register) and BLX (immediate) (R164 to R166), on a processor with Thumb support: T takes bit 0 of the target, the pc the rest;
BLX leaves the next address in r14 and reads its target first; a target with bits 1:0 = 10 is UNPREDICTABLE. -/
def Obligations.BranchesExchangeState : Prop :=
  ∀ (c : Cond) (rm : RegNo) (s : State), s.cfg.hasThumb = true →
    let v := s.reg rm
    (Ready (.bx c 0xFFF rm) s → v.extractLsb' 0 2 ≠ 0b10#2 →
      ∃ t, exec (.bx c 0xFFF rm) s = .next t ∧ t.pc = (v.extractLsb' 1 31 ++ 0b0#1) ∧ psrT t.cpsr = v.getLsbD 0 ∧
        psrWithT t.cpsr (psrT s.cpsr) = s.cpsr ∧ Frame s t [] ∧ NoCoprocessor s t ∧ SameMemory s t) ∧
    (Ready (.blxReg c 0xFFF rm) s → v.extractLsb' 0 2 ≠ 0b10#2 →
      ∃ t, exec (.blxReg c 0xFFF rm) s = .next t ∧ t.pc = (v.extractLsb' 1 31 ++ 0b0#1) ∧ psrT t.cpsr = v.getLsbD 0 ∧
        psrWithT t.cpsr (psrT s.cpsr) = s.cpsr ∧ t.getPhys (s.phys 14) = s.pc + 4 ∧ Frame s t [s.phys 14] ∧
        NoCoprocessor s t ∧ SameMemory s t) ∧
    (v.extractLsb' 0 2 = 0b10#2 →
      (Ready (.bx c 0xFFF rm) s → exec (.bx c 0xFFF rm) s = .refused (.unpredictable .branchTarget)) ∧
      (Ready (.blxReg c 0xFFF rm) s → exec (.blxReg c 0xFFF rm) s = .refused (.unpredictable .branchTarget))) ∧
    ∀ (h : Bool) (imm : BitVec 24), Ready (.blxImm h imm) s →
      ∃ t, exec (.blxImm h imm) s = .next t ∧
        t.pc = BitVec.ofInt 32 ((s.pc.toNat : Int) + 8 + 4 * imm.toInt + (if h then 2 else 0)) ∧ psrT t.cpsr = true ∧
        psrWithT t.cpsr (psrT s.cpsr) = s.cpsr ∧ t.getPhys (s.phys 14) = s.pc + 4 ∧ Frame s t [s.phys 14] ∧
        NoCoprocessor s t ∧ SameMemory s t

/-- SWI enters Supervisor mode at 0x08, BKPT Abort mode at 0x0C (R180, R182), in every mode: the link is the next address, the CPSR is
saved, I set, F unchanged. -/
def Obligations.SwiAndBreakpointEnter : Prop :=
  ∀ (c : Cond) (imm : BitVec 24) (immH : BitVec 12) (immL : BitVec 4) (s : State),
    let high : Word := if s.cfg.highVectors then 0xFFFF0000 else 0
    (Ready (.swi c imm) s → ∃ t, exec (.swi c imm) s = .next t ∧ t.getPhys (.svc 1) = s.pc + 4 ∧ t.spsr.svc = s.cpsr ∧
      t.cpsr = s.cpsr.extractLsb' 8 24 ++ 0b1#1 ++ bit (psrF s.cpsr) ++ 0b0#1 ++ 0b10011#5 ∧ t.pc = high + 0x08 ∧
      t.mem = s.mem ∧ (∀ q, q ≠ .pc → q ≠ .svc 1 → t.getPhys q = s.getPhys q) ∧
      t.spsr = { s.spsr with svc := s.cpsr }) ∧
    (Ready (.bkpt c immH immL) s → ∃ t, exec (.bkpt c immH immL) s = .next t ∧ t.getPhys (.abt 1) = s.pc + 4 ∧
      t.cpsr = s.cpsr.extractLsb' 8 24 ++ 0b1#1 ++ bit (psrF s.cpsr) ++ 0b0#1 ++ 0b10111#5 ∧ t.pc = high + 0x0C ∧
      t.mem = s.mem ∧ (∀ q, q ≠ .pc → q ≠ .abt 1 → t.getPhys q = s.getPhys q) ∧
      t.spsr = { s.spsr with abt := s.cpsr })

/-! ### Single transfers -/

/-- LDR, LDRB, LDRT, LDRBT into a register below r15, every addressing form (R262, R264, R265, R270 to R273, R65): the word rotated by the low
address bits or the byte zero-extended, the base written back, everything else unchanged. -/
def Obligations.LoadsFillTheRegister : Prop :=
  ∀ (op : SingleOp) (form : SingleForm) (off : SingleOffset) (c : Cond) (u : Bool) (rn rd : RegNo) (s : State),
    (op = .ldr ∨ op = .ldrb) →
    let i := op.instr form off c u rn rd
    let tr := form.transfer off u rn s
    let a := if op = .ldr then wordAddress tr.address else tr.address
    Ready i s → rd ≠ 15 → s.pc.toNat < 0xFFFFFFFC → memAbort s.cfg a op.width .read (form.priv s) = false →
    ∃ t, exec i s = .next t ∧
      t.getPhys (s.phys rd) = (if op = .ldr then rotatedByTable tr.address (s.dataValue a.toNat .word)
        else s.dataValue a.toNat .byte) ∧
      BaseAfter s t tr rn ∧ t.pc = s.pc + 4 ∧ t.cpsr = s.cpsr ∧ Frame s t (loadWrites s tr rn rd) ∧ NoCoprocessor s t ∧
      SameMemory s t

/-- LDR into r15 (R268): a branch to the loaded word, for an aligned address; before v5T bits 1:0 are ignored, from v5T on bit 0 goes to T
and bits 1:0 = 10 are UNPREDICTABLE. -/
def Obligations.LoadsIntoThePcBranch : Prop :=
  ∀ (form : SingleForm) (off : SingleOffset) (c : Cond) (u : Bool) (rn : RegNo) (s : State),
    let i := SingleOp.ldr.instr form off c u rn 15
    let tr := form.transfer off u rn s
    let v := s.dataValue (wordAddress tr.address).toNat .word
    Ready i s → (s.cfg.archV5T = true → s.cfg.hasThumb = true) →
    memAbort s.cfg (wordAddress tr.address) .word .read (form.priv s) = false →
    (tr.address.extractLsb' 0 2 ≠ 0b00#2 → exec i s = .refused (.unpredictable .loadPcBits)) ∧
    (tr.address.extractLsb' 0 2 = 0b00#2 → s.cfg.archV5T = true → v.extractLsb' 0 2 = 0b10#2 →
      exec i s = .refused (.unpredictable .loadPcBits)) ∧
    (tr.address.extractLsb' 0 2 = 0b00#2 → (s.cfg.archV5T = true → v.extractLsb' 0 2 ≠ 0b10#2) →
      ∃ t, exec i s = .next t ∧ BaseAfter s t tr rn ∧
        (s.cfg.archV5T = false → t.pc = v.extractLsb' 2 30 ++ 0b00#2 ∧ t.cpsr = s.cpsr) ∧
        (s.cfg.archV5T = true → t.pc = v.extractLsb' 1 31 ++ 0b0#1 ∧ t.cpsr = psrWithT s.cpsr (v.getLsbD 0)) ∧
        Frame s t (storeWrites s tr rn) ∧ NoCoprocessor s t ∧ SameMemory s t)

/-- STR, STRB, STRT, STRBT, every addressing form (R263, R265, R266, R269, R270, R272, R274, R66): the stored bytes, the base written back,
everything else unchanged; a store that changes one of the next two instruction words is UNPREDICTABLE (R472). -/
def Obligations.StoresFillMemory : Prop :=
  ∀ (op : SingleOp) (form : SingleForm) (off : SingleOffset) (c : Cond) (u : Bool) (rn rd : RegNo) (s : State),
    (op = .str ∨ op = .strb) →
    let i := op.instr form off c u rn rd
    let tr := form.transfer off u rn s
    let a := if op = .str then wordAddress tr.address else tr.address
    let v := if rd = 15 then s.pc + (if s.cfg.pcStoreOffset = .eight then 8 else 12) else s.reg rd
    let m := s.mem.writeBytes a.toNat v (Width.bytes op.width)
    Ready i s → memAbort s.cfg a op.width .write (form.priv s) = false →
    (pipelineChanged s.pc s.mem m = true → exec i s = .refused (.unpredictable .storeIntoPipeline)) ∧
    (pipelineChanged s.pc s.mem m = false → s.pc.toNat < 0xFFFFFFFC → ∃ t, exec i s = .next t ∧ t.mem = m ∧
      SameMemoryBut s t a (Width.bytes op.width) ∧ BaseAfter s t tr rn ∧ t.pc = s.pc + 4 ∧ t.cpsr = s.cpsr ∧
      Frame s t (storeWrites s tr rn) ∧ NoCoprocessor s t)

/-- An aborted single transfer (R277, R433, R435), all of LDR, STR, LDRB, STRB and their T forms: the Data Abort exception with the link the pc
plus 8; memory and the destination are untouched, the base is written back under the base updated model only. -/
def Obligations.SingleTransferAborts : Prop :=
  ∀ (op : SingleOp) (form : SingleForm) (off : SingleOffset) (c : Cond) (u : Bool) (rn rd : RegNo) (s : State),
    let i := op.instr form off c u rn rd
    let tr := form.transfer off u rn s
    let a := if op.width = .word then wordAddress tr.address else tr.address
    let kind : AccessKind := if op = .ldr ∨ op = .ldrb then .read else .write
    Ready i s → memAbort s.cfg a op.width kind (form.priv s) = true →
    ∃ t, exec i s = .next t ∧ DataAbortEntered s t ∧ NoCoprocessor s t ∧ t.mem = s.mem ∧
      (∀ q, q ≠ .pc → q ≠ .abt 1 → q ≠ s.phys rn → t.getPhys q = s.getPhys q) ∧ BaseAfterAbort s t tr.writeback tr.target rn

/-- LDRH, LDRSB, LDRSH, both offsets (R291, R292, R294, R295): zero or sign extension, the base written back, everything else unchanged. -/
def Obligations.HalfwordLoadsExtend : Prop :=
  ∀ (op : HalfOp) (off : HalfOffset) (c : Cond) (p u w : Bool) (rn rd : RegNo) (s : State) (a : Word), op ≠ .strh →
    let i := op.instr off c p u w rn rd
    let tr := off.transfer p u w rn s
    Ready i s → s.pc.toNat < 0xFFFFFFFC → accessAddress s.cfg op.width tr.address = some a →
    memAbort s.cfg a op.width .read s.privileged = false →
    ∃ t, exec i s = .next t ∧
      t.getPhys (s.phys rd) = (match op with
        | .ldrsb => ((s.dataByte a.toNat).signExtend 32 : Word)
        | .ldrsh => ((s.dataByte (a.toNat + 1) ++ s.dataByte a.toNat).signExtend 32 : Word)
        | _ => ((s.dataByte (a.toNat + 1) ++ s.dataByte a.toNat).setWidth 32 : Word)) ∧
      BaseAfter s t tr rn ∧ t.pc = s.pc + 4 ∧ t.cpsr = s.cpsr ∧ Frame s t (loadWrites s tr rn rd) ∧ NoCoprocessor s t ∧
      SameMemory s t

/-- STRH, both offsets (R291, R293): the two bytes stored, the base written back, everything else unchanged. -/
def Obligations.HalfwordStoresFillMemory : Prop :=
  ∀ (off : HalfOffset) (c : Cond) (p u w : Bool) (rn rd : RegNo) (s : State) (a : Word),
    let i := HalfOp.strh.instr off c p u w rn rd
    let tr := off.transfer p u w rn s
    let m := s.mem.writeBytes a.toNat (s.reg rd) 2
    Ready i s → accessAddress s.cfg .half tr.address = some a → memAbort s.cfg a .half .write s.privileged = false →
    (pipelineChanged s.pc s.mem m = true → exec i s = .refused (.unpredictable .storeIntoPipeline)) ∧
    (pipelineChanged s.pc s.mem m = false → s.pc.toNat < 0xFFFFFFFC → ∃ t, exec i s = .next t ∧ t.mem = m ∧
      SameMemoryBut s t a 2 ∧ BaseAfter s t tr rn ∧ t.pc = s.pc + 4 ∧ t.cpsr = s.cpsr ∧
      Frame s t (storeWrites s tr rn) ∧ NoCoprocessor s t)

/-- The address of a halfword access (R67, R297): itself when even; when odd, refused or with bit 0 ignored, by the parameter. An
instruction whose access aborts takes the Data Abort exception (R299) and leaves memory and, but for the base, the registers. -/
def Obligations.HalfwordAddressesAndAborts : Prop :=
  ∀ (op : HalfOp) (off : HalfOffset) (c : Cond) (p u w : Bool) (rn rd : RegNo) (s : State),
    let i := op.instr off c p u w rn rd
    let tr := off.transfer p u w rn s
    let kind : AccessKind := if op = .strh then .write else .read
    (op.width = .byte ∨ tr.address.getLsbD 0 = false → accessAddress s.cfg op.width tr.address = some tr.address) ∧
    (op.width = .half → tr.address.getLsbD 0 = true → s.cfg.halfwordMisaligned = .ignoreBit0 →
      accessAddress s.cfg op.width tr.address = some (tr.address.extractLsb' 1 31 ++ 0b0#1)) ∧
    (op.width = .half → tr.address.getLsbD 0 = true → s.cfg.halfwordMisaligned = .refuse → Ready i s →
      exec i s = .refused (.unpredictable .oddHalfword)) ∧
    (∀ a, Ready i s → accessAddress s.cfg op.width tr.address = some a → memAbort s.cfg a op.width kind s.privileged = true →
      ∃ t, exec i s = .next t ∧ DataAbortEntered s t ∧ NoCoprocessor s t ∧ t.mem = s.mem ∧
        (∀ q, q ≠ .pc → q ≠ .abt 1 → q ≠ s.phys rn → t.getPhys q = s.getPhys q) ∧ BaseAfterAbort s t tr.writeback tr.target rn)

/-! ### Block transfers -/

/-- The addressing table of LDM and STM (R311): start address, end address and new base of the modes IA, IB, DA, DB for `n` registers. -/
def Obligations.BlockAddressTable : Prop :=
  ∀ (base : Word) (n : Nat),
    startAddress false true base n = base ∧ startAddress true true base n = base + 4 ∧
    startAddress false false base n = BitVec.ofInt 32 ((base.toNat : Int) - 4 * n + 4) ∧
    startAddress true false base n = BitVec.ofInt 32 ((base.toNat : Int) - 4 * n) ∧
    newBase true base n = BitVec.ofInt 32 ((base.toNat : Int) + 4 * n) ∧
    newBase false base n = BitVec.ofInt 32 ((base.toNat : Int) - 4 * n) ∧
    (1 ≤ n →
      blockAddress (startAddress false true base n) (n - 1) = BitVec.ofInt 32 ((base.toNat : Int) + 4 * n - 4) ∧
      blockAddress (startAddress true true base n) (n - 1) = BitVec.ofInt 32 ((base.toNat : Int) + 4 * n) ∧
      blockAddress (startAddress false false base n) (n - 1) = base ∧
      blockAddress (startAddress true false base n) (n - 1) = base - 4)

/-- LDM (1) (R312, R313): the listed registers take consecutive words from the start address, the lowest first, r15 the last one as a
branch: before v5T with bits 1:0 cleared, from v5T on with bit 0 to T and cleared in the pc; the base is written back; everything else
unchanged. -/
def Obligations.LdmLoadsTheList : Prop :=
  ∀ (c : Cond) (p u w : Bool) (rn : RegNo) (list : BitVec 16) (s : State),
    let i : Instr := .ldm c p u w rn list
    let regs := listedRegs list
    let start := startAddress p u (s.reg rn) regs.length
    Ready i s → noAbort s .read start regs.length → (s.cfg.archV5T = true → s.cfg.hasThumb = true) →
    (list.getLsbD 15 = false → s.pc.toNat < 0xFFFFFFFC) →
    ∃ t, exec i s = .next t ∧
      (∀ k r, regs[k]? = some r → r ≠ 15 → BlockValue s start k (t.getPhys (s.phys r))) ∧
      (w = true → t.getPhys (s.phys rn) = newBase u (s.reg rn) regs.length) ∧
      (list.getLsbD 15 = false → t.pc = s.pc + 4 ∧ t.cpsr = s.cpsr) ∧
      (list.getLsbD 15 = true → ∃ v, BlockValue s start (regs.length - 1) v ∧
        (s.cfg.archV5T = false → t.pc = v.extractLsb' 2 30 ++ 0b00#2 ∧ t.cpsr = s.cpsr) ∧
        (s.cfg.archV5T = true → t.pc = v.extractLsb' 1 31 ++ 0b0#1 ∧ t.cpsr = psrWithT s.cpsr (v.getLsbD 0))) ∧
      Frame s t ((if w then [s.phys rn] else []) ++ regs.map s.phys) ∧ NoCoprocessor s t ∧ SameMemory s t

/-- LDM (2) (R315, R471): in an exception mode the listed registers of the User bank take the words, the current mode's own registers and
the base stay, and the next instruction is in the hazard of R471; in User and System mode UNPREDICTABLE. -/
def Obligations.LdmLoadsTheUserBank : Prop :=
  ∀ (c : Cond) (p u : Bool) (rn : RegNo) (list : BitVec 15) (s : State),
    let i : Instr := .ldmUser c p u false rn list
    let regs := listedRegs list
    let start := startAddress p u (s.reg rn) regs.length
    Ready i s →
    (s.mode = some .user ∨ s.mode = some .system → exec i s = .refused (.unpredictable .userBankForm)) ∧
    (s.mode ≠ some .user → s.mode ≠ some .system → noAbort s .read start regs.length → s.pc.toNat < 0xFFFFFFFC →
      ∃ t, exec i s = .next t ∧
        (∀ k r, regs[k]? = some r → BlockValue s start k (t.getPhys (bank (some .user) r))) ∧
        t.userBankWindow = true ∧ t.pc = s.pc + 4 ∧ t.cpsr = s.cpsr ∧ t.spsr = s.spsr ∧ t.cfg = s.cfg ∧
        (∀ q, q ≠ .pc → q ∉ regs.map (bank (some .user)) → t.getPhys q = s.getPhys q) ∧ NoCoprocessor s t ∧ SameMemory s t)

/-- LDM (3) (R316): the registers of the mode being left take the words, the base is written back there, the SPSR goes to the CPSR and
the last word to the pc with bit 0, or bits 1:0 in ARM state, cleared; without an SPSR, or with one that holds no mode, UNPREDICTABLE. -/
def Obligations.LdmReturnsFromException : Prop :=
  ∀ (c : Cond) (p u w : Bool) (rn : RegNo) (list : BitVec 15) (s : State),
    let i : Instr := .ldmReturn c p u w rn list
    let regs := listedRegs list
    let start := startAddress p u (s.reg rn) (regs.length + 1)
    Ready i s → s.cfg.hasThumb = true →
    (s.currentSpsr = none → exec i s = .refused (.unpredictable .noSpsr)) ∧
    ∀ psr, s.currentSpsr = some psr → noAbort s .read start (regs.length + 1) →
      (Mode.ofBits (psrMode psr) = none → exec i s = .refused (.unpredictable .writesNonMode)) ∧
      (Mode.ofBits (psrMode psr) ≠ none → ∃ t v, exec i s = .next t ∧
        (∀ k r, regs[k]? = some r → BlockValue s start k (t.getPhys (s.phys r))) ∧
        (w = true → t.getPhys (s.phys rn) = newBase u (s.reg rn) (regs.length + 1)) ∧
        BlockValue s start regs.length v ∧ t.cpsr = psr ∧
        t.pc = (if psrT psr then v.extractLsb' 1 31 ++ 0b0#1 else v.extractLsb' 2 30 ++ 0b00#2) ∧
        Frame s t ((if w then [s.phys rn] else []) ++ regs.map s.phys) ∧ NoCoprocessor s t ∧ SameMemory s t)

/-- STM (1) and STM (2) (R313, R314, R317, R269): the listed registers, of the current mode or of the User bank, go to consecutive words, the
lowest first, r15 as the pc plus 8 or 12; the base is written back by STM (1); every other byte and register is unchanged; a store that
changes one of the next two instruction words is UNPREDICTABLE (R472), and so is STM (2) in User and System mode. -/
def Obligations.StmStoresTheList : Prop :=
  ∀ (user : Bool) (c : Cond) (p u w : Bool) (rn : RegNo) (list : BitVec 16) (s : State),
    let i : Instr := if user then .stmUser c p u w rn list else .stm c p u w rn list
    let m : Option Mode := if user then some .user else s.mode
    let regs := listedRegs list
    let start := startAddress p u (s.reg rn) regs.length
    let value : RegNo → Word := fun r =>
      if r = 15 then s.pc + (if s.cfg.pcStoreOffset = .eight then 8 else 12) else s.getPhys (bank m r)
    let mem := storeWords (regs.map value) start s.mem
    Ready i s →
    (user = true → s.mode = some .user ∨ s.mode = some .system → exec i s = .refused (.unpredictable .userBankForm)) ∧
    ((user = true → s.mode ≠ some .user ∧ s.mode ≠ some .system) → noAbort s .write start regs.length →
      (pipelineChanged s.pc s.mem mem = true → exec i s = .refused (.unpredictable .storeIntoPipeline)) ∧
      (pipelineChanged s.pc s.mem mem = false → s.pc.toNat < 0xFFFFFFFC → ∃ t, exec i s = .next t ∧ t.mem = mem ∧
        (s.mem.wf → ∀ k r, regs[k]? = some r → t.mem.readWord (wordAddress (blockAddress start k)).toNat = value r) ∧
        (∀ b, (∀ k < regs.length, b < (wordAddress (blockAddress start k)).toNat ∨
          (wordAddress (blockAddress start k)).toNat + 4 ≤ b) → t.mem.read b = s.mem.read b) ∧
        (w = true → t.getPhys (s.phys rn) = newBase u (s.reg rn) regs.length) ∧ t.pc = s.pc + 4 ∧ t.cpsr = s.cpsr ∧
        Frame s t (if w then [s.phys rn] else []) ∧ NoCoprocessor s t))

/-- An aborted LDM of any of the three forms (R320): the Data Abort exception, with r15 not loaded and, for LDM (3), the CPSR not restored
from the SPSR; memory is unchanged; a register of the list loaded before the abort holds its word; the base holds its old value, or the
new base when it is written back under the base updated model; registers outside the list are unchanged; of the list's others nothing is
said (log 23). -/
def Obligations.AbortedLdmTakesDataAbort : Prop :=
  ∀ (form : LdmForm) (c : Cond) (p u w : Bool) (rn : RegNo) (s : State) (j : Nat),
    let i := form.instr c p u w rn
    let regs := form.regs
    let target := bank (form.bankMode s)
    let start := startAddress p u (s.reg rn) regs.length
    Ready i s → form.allowed s → j < regs.length → noAbort s .read start j →
    memAbort s.cfg (wordAddress (blockAddress start j)) .word .read s.privileged = true →
    ∃ t, exec i s = .next t ∧ DataAbortEntered s t ∧ NoCoprocessor s t ∧ t.mem = s.mem ∧
      BaseAfterAbort s t w (newBase u (s.reg rn) regs.length) rn ∧
      (∀ k r, k < j → regs[k]? = some r → target r ≠ s.phys rn → target r ≠ .abt 1 → BlockValue s start k (t.getPhys (target r))) ∧
      (∀ q, q ≠ .pc → q ≠ .abt 1 → q ≠ s.phys rn → q ∉ regs.map target → t.getPhys q = s.getPhys q)

/-- An aborted STM of either form (R320, R321): every word is attempted, the words that do not abort are in memory, the others and every byte
outside the list's words are as before; then the Data Abort exception; the base by the abort model. -/
def Obligations.AbortedStmStoresTheRest : Prop :=
  ∀ (user : Bool) (c : Cond) (p u w : Bool) (rn : RegNo) (list : BitVec 16) (s : State) (j : Nat),
    let i : Instr := if user then .stmUser c p u w rn list else .stm c p u w rn list
    let m : Option Mode := if user then some .user else s.mode
    let regs := listedRegs list
    let start := startAddress p u (s.reg rn) regs.length
    let address : Nat → Word := fun k => wordAddress (blockAddress start k)
    let value : RegNo → Word := fun r =>
      if r = 15 then s.pc + (if s.cfg.pcStoreOffset = .eight then 8 else 12) else s.getPhys (bank m r)
    Ready i s → (user = true → s.mode ≠ some .user ∧ s.mode ≠ some .system) →
    s.mem.wf → j < regs.length → memAbort s.cfg (address j) .word .write s.privileged = true →
    (∀ k < regs.length, address k ≠ wordAddress (s.pc + 4) ∧ address k ≠ wordAddress (s.pc + 8)) → s.pc.extractLsb' 0 2 = 0b00#2 →
    ∃ t, exec i s = .next t ∧ DataAbortEntered s t ∧ NoCoprocessor s t ∧
      (∀ k r, regs[k]? = some r → memAbort s.cfg (address k) .word .write s.privileged = true →
        t.mem.readWord (address k).toNat = s.mem.readWord (address k).toNat) ∧
      (∀ k r, regs[k]? = some r → memAbort s.cfg (address k) .word .write s.privileged = false →
        t.mem.readWord (address k).toNat = value r) ∧
      (∀ b, (∀ k < regs.length, b < (address k).toNat ∨ (address k).toNat + 4 ≤ b) → t.mem.read b = s.mem.read b) ∧
      BaseAfterAbort s t w (newBase u (s.reg rn) regs.length) rn ∧
      (∀ q, q ≠ .pc → q ≠ .abt 1 → q ≠ s.phys rn → t.getPhys q = s.getPhys q)

/-! ### Coprocessors -/

/-- An instruction for a coprocessor that is absent, or that declines, takes the Undefined Instruction exception (R351, R360); while the
coprocessor is busy the step leaves the pc and everything but the queue of answers (R357, log 10). What a coprocessor answers is the next
of a queue, the model's choice (log 9). -/
def Obligations.UnacceptedCoprocessorInstructions : Prop :=
  ∀ (i : Instr) (cp : BitVec 4) (s : State), isCoprocessor i = some cp → runs i s = true →
    (cp ∉ s.cfg.coprocs → exec i s = .next (takeException .undefined s)) ∧
    (cp ∈ s.cfg.coprocs → ∀ s1, cpAnswer cp (encode i) s = (.declines, s1) → exec i s = .next (takeException .undefined s1)) ∧
    (cp ∈ s.cfg.coprocs → ∀ s1, cpAnswer cp (encode i) s = (.busy, s1) →
      exec i s = .next s1 ∧ s1 = { s with cpReplies := s1.cpReplies, draws := s1.draws })

/-- CDP, MCR and MRC once accepted (R352, R355, R356, R358): the word and, for MCR, the register go to the coprocessor; MRC writes its answer
to Rd, or its top four bits to the flags when Rd is r15; nothing else changes. -/
def Obligations.CoprocessorRegisterTransfers : Prop :=
  ∀ (i : Instr) (cp : BitVec 4) (v : Word) (vs : List Word) (s s1 : State), isCoprocessor i = some cp → Ready i s →
    cp ∈ s.cfg.coprocs → cpAnswer cp (encode i) s = (.accepts v vs, s1) → s.pc.toNat < 0xFFFFFFFC →
    (∀ c op1 crn crd op2 crm, i = .cdp c op1 crn crd cp op2 crm →
      ∃ t, exec i s = .next t ∧ t.cpSent = .dataOp cp (encode i) :: s.cpSent ∧ t.pc = s.pc + 4 ∧ t.cpsr = s.cpsr ∧
        Frame s t [] ∧ SameMemory s t) ∧
    (∀ c op1 crn rd op2 crm, i = .mcr c op1 crn rd cp op2 crm →
      ∃ t, exec i s = .next t ∧ t.cpSent = .fromArm cp (encode i) (if rd = 15 then
          s.pc + (if s.cfg.pcStoreOffset = .eight then 8 else 12) else s.reg rd) :: s.cpSent ∧ t.pc = s.pc + 4 ∧
        t.cpsr = s.cpsr ∧ Frame s t [] ∧ SameMemory s t) ∧
    (∀ c op1 crn rd op2 crm, i = .mrc c op1 crn rd cp op2 crm →
      ∃ t, exec i s = .next t ∧ t.cpSent = .toArm cp (encode i) v :: s.cpSent ∧ t.pc = s.pc + 4 ∧
        (rd ≠ 15 → t.getPhys (s.phys rd) = v ∧ t.cpsr = s.cpsr) ∧
        (rd = 15 → FlagsAre s.cpsr t.cpsr (v.getLsbD 31) (v.getLsbD 30) (v.getLsbD 29) (v.getLsbD 28)) ∧
        Frame s t (if rd = 15 then [] else [s.phys rd]) ∧ SameMemory s t)

/-- LDC once accepted (R353): the coprocessor takes as many consecutive words as it asks for, from the start address up; the base is
written back; everything else unchanged. -/
def Obligations.LdcGivesWordsToTheCoprocessor : Prop :=
  ∀ (form : CpForm) (c : Cond) (n : Bool) (rn : RegNo) (crd cp : BitVec 4) (imm : BitVec 8) (v : Word) (vs : List Word)
    (s s1 : State),
    let i := form.ldc c n rn crd cp imm
    let tr := form.transfer rn imm s
    Ready i s → cp ∈ s.cfg.coprocs → cpAnswer cp (encode i) s = (.accepts v vs, s1) → s.pc.toNat < 0xFFFFFFFC →
    noAbort s .read tr.address (vs.length + 1) →
    ∃ (t : State) (words : List Word), exec i s = .next t ∧ words.length = vs.length + 1 ∧
      (∀ k x, words[k]? = some x → BlockValue s tr.address k x) ∧
      t.cpSent = ((words.zipIdx).map fun x => CpEvent.takeWord cp (encode i) x.2 x.1).reverse ++ s.cpSent ∧
      BaseAfter s t tr rn ∧ t.pc = s.pc + 4 ∧ t.cpsr = s.cpsr ∧ Frame s t (storeWrites s tr rn) ∧ SameMemory s t

/-- STC once accepted (R354): the words the coprocessor gives go to consecutive addresses from the start address up; the base is
written back; everything else unchanged; R472 as for every store. -/
def Obligations.StcStoresTheCoprocessorsWords : Prop :=
  ∀ (form : CpForm) (c : Cond) (n : Bool) (rn : RegNo) (crd cp : BitVec 4) (imm : BitVec 8) (v : Word) (vs : List Word)
    (s s1 : State),
    let i := form.stc c n rn crd cp imm
    let tr := form.transfer rn imm s
    let mem := storeWords (v :: vs) tr.address s.mem
    Ready i s → cp ∈ s.cfg.coprocs → cpAnswer cp (encode i) s = (.accepts v vs, s1) → s.pc.toNat < 0xFFFFFFFC →
    noAbort s .write tr.address (vs.length + 1) →
    (pipelineChanged s.pc s.mem mem = true → exec i s = .refused (.unpredictable .storeIntoPipeline)) ∧
    (pipelineChanged s.pc s.mem mem = false →
      ∃ t, exec i s = .next t ∧ t.mem = mem ∧
        (∀ b, (∀ k < vs.length + 1, b < (wordAddress (blockAddress tr.address k)).toNat ∨
          (wordAddress (blockAddress tr.address k)).toNat + 4 ≤ b) → t.mem.read b = s.mem.read b) ∧
        t.cpSent = (((v :: vs).zipIdx).map fun x => CpEvent.giveWord cp (encode i) x.2 x.1).reverse ++ s.cpSent ∧
        BaseAfter s t tr rn ∧ t.pc = s.pc + 4 ∧ t.cpsr = s.cpsr ∧ Frame s t (storeWrites s tr rn))

/-- An aborted LDC and an aborted STC (R353, R354, R277): the Data Abort exception, the base by the abort model, the other registers
unchanged. LDC leaves memory; the coprocessor has taken the words before the first that aborts. STC has stored the words before the first
that aborts and no other byte, unless that changed one of the next two instruction words (R472; that the test is made although a later word aborts is the model's
reading, log 14). That both stop at the first aborted word,
which an STC has been given before its store, is the model's reading (log 22). -/
def Obligations.AbortedCoprocessorTransfers : Prop :=
  ∀ (form : CpForm) (c : Cond) (n : Bool) (rn : RegNo) (crd cp : BitVec 4) (imm : BitVec 8) (v : Word) (vs : List Word)
    (s s1 : State) (j : Nat),
    let tr := form.transfer rn imm s
    let address : Nat → Word := fun k => wordAddress (blockAddress tr.address k)
    let load := form.ldc c n rn crd cp imm
    let store := form.stc c n rn crd cp imm
    let mem := storeWords ((v :: vs).take j) tr.address s.mem
    j < vs.length + 1 → cp ∈ s.cfg.coprocs →
    (Ready load s → cpAnswer cp (encode load) s = (.accepts v vs, s1) → noAbort s .read tr.address j →
      memAbort s.cfg (address j) .word .read s.privileged = true →
      ∃ (t : State) (words : List Word), exec load s = .next t ∧ DataAbortEntered s t ∧ t.mem = s.mem ∧ words.length = j ∧
        (∀ k x, words[k]? = some x → BlockValue s tr.address k x) ∧
        t.cpSent = ((words.zipIdx).map fun x => CpEvent.takeWord cp (encode load) x.2 x.1).reverse ++ s.cpSent ∧
        (∀ q, q ≠ .pc → q ≠ .abt 1 → q ≠ s.phys rn → t.getPhys q = s.getPhys q) ∧ BaseAfterAbort s t tr.writeback tr.target rn) ∧
    (Ready store s → cpAnswer cp (encode store) s = (.accepts v vs, s1) → noAbort s .write tr.address j →
      memAbort s.cfg (address j) .word .write s.privileged = true →
      (pipelineChanged s.pc s.mem mem = true → exec store s = .refused (.unpredictable .storeIntoPipeline)) ∧
      (pipelineChanged s.pc s.mem mem = false → ∃ t, exec store s = .next t ∧ DataAbortEntered s t ∧ t.mem = mem ∧
        (∀ b, (∀ k < j, b < (address k).toNat ∨ (address k).toNat + 4 ≤ b) → t.mem.read b = s.mem.read b) ∧
        t.cpSent = ((((v :: vs).take (j + 1)).zipIdx).map fun x => CpEvent.giveWord cp (encode store) x.2 x.1).reverse ++ s.cpSent ∧
        (∀ q, q ≠ .pc → q ≠ .abt 1 → q ≠ s.phys rn → t.getPhys q = s.getPhys q) ∧ BaseAfterAbort s t tr.writeback tr.target rn))
end

