-- ==== Sys2Proof/Laws/Memory.lean ====
section
/-! SUPPORT. The laws of the memory: a read after a write, the canonical form kept, and equal reads give equal memories. -/

namespace Sys2Proof.Machine

@[simp] theorem Memory.read_nil (a : Nat) : Memory.read [] a = unlistedByte := rfl

theorem Memory.read_cons (c : Host.Cell) (m : Memory) (a : Nat) :
    Memory.read (c :: m) a = if c.1 = a then c.2 else Memory.read m a := rfl

/-- The canonical form of a tail. -/
theorem Memory.wf_tail {c : Host.Cell} {m : Memory} (h : Memory.wf (c :: m)) : Memory.wf m :=
  ⟨(List.pairwise_cons.1 h.1).2, fun d hd => h.2 d (List.mem_cons_of_mem _ hd)⟩

/-- Below every listed address memory reads as unlisted. -/
theorem Memory.read_of_lt {m : Memory} {a : Nat} (h : ∀ c ∈ m, a < c.1) : m.read a = unlistedByte := by
  induction m with
  | nil => rfl
  | cons c m ih =>
    have hc := h c List.mem_cons_self
    rw [Memory.read_cons, if_neg (by omega), ih fun d hd => h d (List.mem_cons_of_mem _ hd)]

/-- In a canonical memory the tail holds nothing at or below the head's address. -/
theorem Memory.read_tail_of_le {c : Host.Cell} {m : Memory} (h : Memory.wf (c :: m)) {a : Nat} (ha : a ≤ c.1) :
    m.read a = unlistedByte :=
  Memory.read_of_lt fun d hd => Nat.lt_of_le_of_lt ha ((List.pairwise_cons.1 h.1).1 d hd)

/-- A read of the byte just written gives the byte written. -/
theorem Memory.read_write_same {m : Memory} (h : m.wf) (a : Nat) (v : Byte) : (m.write a v).read a = v := by
  induction m with
  | nil => by_cases hv : v = unlistedByte <;> simp [Memory.write, hv, Memory.read_cons]
  | cons c m ih =>
    simp only [Memory.write]
    split
    · rename_i hlt
      split
      · rename_i hv
        rw [hv, Memory.read_cons, if_neg (by omega), Memory.read_tail_of_le h (by omega)]
      · simp [Memory.read_cons]
    · split
      · rename_i hnlt heq
        split
        · rename_i hv; rw [hv, heq, Memory.read_tail_of_le h (le_refl _)]
        · simp [Memory.read_cons]
      · rename_i hnlt hne
        rw [Memory.read_cons, if_neg fun hc => hne hc.symm, ih (Memory.wf_tail h)]

/-- A write leaves every other byte as it was. -/
theorem Memory.read_write_other (m : Memory) {a b : Nat} (hab : b ≠ a) (v : Byte) : (m.write a v).read b = m.read b := by
  induction m with
  | nil => by_cases hv : v = unlistedByte <;> simp [Memory.write, hv, Memory.read_cons, hab.symm]
  | cons c m ih =>
    simp only [Memory.write]
    split
    · split
      · rfl
      · rw [Memory.read_cons, if_neg (by exact fun h => hab h.symm)]
    · split
      · rename_i hnlt heq
        have hcb : ¬ c.1 = b := by omega
        split
        · rw [Memory.read_cons, if_neg hcb]
        · rw [Memory.read_cons, if_neg (by exact fun h => hab h.symm), Memory.read_cons, if_neg hcb]
      · rw [Memory.read_cons, Memory.read_cons, ih]

/-- Every entry after a write is an old one or the one written. -/
theorem Memory.mem_write {m : Memory} {a : Nat} {v : Byte} {c : Host.Cell} (h : c ∈ m.write a v) :
    c ∈ m ∨ (c = (a, v) ∧ v ≠ unlistedByte) := by
  induction m with
  | nil =>
    simp only [Memory.write] at h
    split at h
    · simp at h
    · exact .inr ⟨by simpa using h, by assumption⟩
  | cons d m ih =>
    simp only [Memory.write] at h
    split at h
    · split at h
      · exact .inl h
      · rcases List.mem_cons.1 h with h | h
        · exact .inr ⟨h, by assumption⟩
        · exact .inl h
    · split at h
      · split at h
        · exact .inl (List.mem_cons_of_mem _ h)
        · rcases List.mem_cons.1 h with h | h
          · exact .inr ⟨h, by assumption⟩
          · exact .inl (List.mem_cons_of_mem _ h)
      · rcases List.mem_cons.1 h with h | h
        · exact .inl (h ▸ List.mem_cons_self)
        · exact (ih h).imp (List.mem_cons_of_mem _) id

/-- A write of a byte inside the address space keeps the canonical form. -/
theorem Memory.write_wf {m : Memory} (h : m.wf) {a : Nat} (ha : a < 2 ^ 32) (v : Byte) : (m.write a v).wf := by
  refine ⟨?_, fun c hc => ?_⟩
  · induction m with
    | nil => by_cases hv : v = unlistedByte <;> simp [Memory.write, hv]
    | cons c m ih =>
      have hp := List.pairwise_cons.1 h.1
      simp only [Memory.write]
      split
      · rename_i hlt
        split
        · exact h.1
        · refine List.pairwise_cons.2 ⟨fun d hd => ?_, h.1⟩
          rcases List.mem_cons.1 hd with rfl | hd
          · exact hlt
          · exact Nat.lt_trans hlt (hp.1 d hd)
      · split
        · rename_i hnlt heq
          split
          · exact hp.2
          · exact List.pairwise_cons.2 ⟨fun d hd => by simpa [heq] using hp.1 d hd, hp.2⟩
        · rename_i hnlt hne
          refine List.pairwise_cons.2 ⟨fun d hd => ?_, ih (Memory.wf_tail h)⟩
          rcases Memory.mem_write hd with hd | ⟨rfl, -⟩
          · exact hp.1 d hd
          · exact Nat.lt_of_le_of_ne (by simpa using hnlt) fun hh => hne hh.symm
  · rcases Memory.mem_write hc with hc | ⟨rfl, hv⟩
    · exact h.2 c hc
    · exact ⟨ha, hv⟩

/-- Storing bytes inside the address space keeps the canonical form. -/
theorem Memory.writeBytes_wf {m : Memory} (h : m.wf) {a : Nat} (v : Word) {n : Nat} (ha : a + n ≤ 2 ^ 32) :
    (m.writeBytes a v n).wf := by
  induction n with
  | zero => exact h
  | succ n ih => exact Memory.write_wf (ih (by omega)) (by omega) _

/-- Storing bytes leaves every byte outside them as it was. -/
theorem Memory.read_writeBytes_other (m : Memory) {a b : Nat} (v : Word) {n : Nat} (hb : b < a ∨ a + n ≤ b) :
    (m.writeBytes a v n).read b = m.read b := by
  induction n with
  | zero => rfl
  | succ n ih =>
    rw [Memory.writeBytes, Memory.read_write_other _ (by omega), ih (by omega)]

/-- Each stored byte reads back. -/
theorem Memory.read_writeBytes_same {m : Memory} (h : m.wf) {a : Nat} (v : Word) {n k : Nat} (ha : a + n ≤ 2 ^ 32)
    (hk : k < n) : (m.writeBytes a v n).read (a + k) = byteOf v k := by
  induction n with
  | zero => omega
  | succ n ih =>
    rw [Memory.writeBytes]
    by_cases hkn : k = n
    · rw [hkn, Memory.read_write_same (Memory.writeBytes_wf h v (by omega))]
    · rw [Memory.read_write_other _ (by omega), ih (by omega) (by omega)]

/-- A word is its four bytes. -/
theorem wordOfBytes_byteOf (v : Word) : wordOfBytes (byteOf v 0) (byteOf v 1) (byteOf v 2) (byteOf v 3) = v := by
  apply BitVec.eq_of_getLsbD_eq; intro i hi
  simp only [wordOfBytes, byteOf, BitVec.getLsbD_append, BitVec.getLsbD_extractLsb']; interval_cases i <;> simp

/-- A stored word reads back. -/
theorem Memory.readWord_writeBytes {m : Memory} (h : m.wf) {a : Nat} (v : Word) (ha : a + 4 ≤ 2 ^ 32) :
    (m.writeBytes a v 4).readWord a = v := by
  have hk := fun k hk => Memory.read_writeBytes_same h v (n := 4) (k := k) ha hk
  rw [Memory.readWord, show (m.writeBytes a v 4).read a = byteOf v 0 from hk 0 (by omega), hk 1 (by omega), hk 2 (by omega),
    hk 3 (by omega), wordOfBytes_byteOf]

/-- Canonical memories that read alike are equal. -/
theorem Memory.eq_of_read_eq {m n : Memory} (hm : m.wf) (hn : n.wf) (h : ∀ a, m.read a = n.read a) : m = n := by
  induction m generalizing n with
  | nil =>
    cases n with
    | nil => rfl
    | cons d n => exact absurd (by simpa [Memory.read_cons] using (h d.1).symm) (hn.2 d List.mem_cons_self).2
  | cons c m ih =>
    cases n with
    | nil => exact absurd (by simpa [Memory.read_cons] using h c.1) (hm.2 c List.mem_cons_self).2
    | cons d n =>
      have hc := (hm.2 c List.mem_cons_self).2
      have hd := (hn.2 d List.mem_cons_self).2
      have h1 : c.1 = d.1 := by
        rcases Nat.lt_trichotomy c.1 d.1 with hlt | heq | hgt
        · have := h c.1
          rw [Memory.read_cons, if_pos rfl, Memory.read_cons, if_neg (by omega), Memory.read_tail_of_le hn (by omega)] at this
          exact absurd this hc
        · exact heq
        · have := h d.1
          rw [Memory.read_cons, if_neg (by omega), Memory.read_tail_of_le hm (by omega), Memory.read_cons, if_pos rfl] at this
          exact absurd this.symm hd
      have h2 : c.2 = d.2 := by simpa [Memory.read_cons, h1] using h c.1
      have h3 : m = n := by
        refine ih (Memory.wf_tail hm) (Memory.wf_tail hn) fun a => ?_
        by_cases ha : a = c.1
        · rw [ha, Memory.read_tail_of_le hm (le_refl _), Memory.read_tail_of_le hn (by omega)]
        · have := h a
          rwa [Memory.read_cons, Memory.read_cons, if_neg (by omega), if_neg (by omega)] at this
      rw [h3, show c = d from Prod.ext h1 h2]

end Sys2Proof.Machine
end

