-- ==== Sys2Proof/Laws/State.lean ====
section
/-! SUPPORT. One lemma per field per update of the state, so that no proof unfolds an update; and the registers read back. -/

namespace Sys2Proof.Machine

@[simp] theorem State.setPhys_cfg (s : State) (q : PhysReg) (v : Word) : (s.setPhys q v).cfg = s.cfg := by cases q <;> rfl

@[simp] theorem State.setReg_cfg (s : State) (r : RegNo) (v : Word) : (s.setReg r v).cfg = s.cfg := State.setPhys_cfg ..

@[simp] theorem State.setPhys_cpsr (s : State) (q : PhysReg) (v : Word) : (s.setPhys q v).cpsr = s.cpsr := by cases q <;> rfl

@[simp] theorem State.setReg_cpsr (s : State) (r : RegNo) (v : Word) : (s.setReg r v).cpsr = s.cpsr := State.setPhys_cpsr ..

@[simp] theorem State.setPhys_spsr (s : State) (q : PhysReg) (v : Word) : (s.setPhys q v).spsr = s.spsr := by cases q <;> rfl

@[simp] theorem State.setReg_spsr (s : State) (r : RegNo) (v : Word) : (s.setReg r v).spsr = s.spsr := State.setPhys_spsr ..

@[simp] theorem State.setPhys_mem (s : State) (q : PhysReg) (v : Word) : (s.setPhys q v).mem = s.mem := by cases q <;> rfl

@[simp] theorem State.setReg_mem (s : State) (r : RegNo) (v : Word) : (s.setReg r v).mem = s.mem := State.setPhys_mem ..

@[simp] theorem State.setPhys_lines (s : State) (q : PhysReg) (v : Word) : (s.setPhys q v).lines = s.lines := by cases q <;> rfl

@[simp] theorem State.setReg_lines (s : State) (r : RegNo) (v : Word) : (s.setReg r v).lines = s.lines := State.setPhys_lines ..

@[simp] theorem State.setPhys_cpReplies (s : State) (q : PhysReg) (v : Word) : (s.setPhys q v).cpReplies = s.cpReplies := by cases q <;> rfl

@[simp] theorem State.setReg_cpReplies (s : State) (r : RegNo) (v : Word) : (s.setReg r v).cpReplies = s.cpReplies := State.setPhys_cpReplies ..

@[simp] theorem State.setPhys_cpSent (s : State) (q : PhysReg) (v : Word) : (s.setPhys q v).cpSent = s.cpSent := by cases q <;> rfl

@[simp] theorem State.setReg_cpSent (s : State) (r : RegNo) (v : Word) : (s.setReg r v).cpSent = s.cpSent := State.setPhys_cpSent ..

@[simp] theorem State.setPhys_userBankWindow (s : State) (q : PhysReg) (v : Word) : (s.setPhys q v).userBankWindow = s.userBankWindow := by cases q <;> rfl

@[simp] theorem State.setReg_userBankWindow (s : State) (r : RegNo) (v : Word) : (s.setReg r v).userBankWindow = s.userBankWindow := State.setPhys_userBankWindow ..

@[simp] theorem State.setPhys_draws (s : State) (q : PhysReg) (v : Word) : (s.setPhys q v).draws = s.draws := by cases q <;> rfl

@[simp] theorem State.setReg_draws (s : State) (r : RegNo) (v : Word) : (s.setReg r v).draws = s.draws := State.setPhys_draws ..

@[simp] theorem State.setSpsr_cfg (s : State) (m : Option Mode) (v : Word) : (s.setSpsr m v).cfg = s.cfg := by
  unfold State.setSpsr; split <;> rfl

@[simp] theorem State.setAluFlags_cfg (s : State) (o : AluOut) : (s.setAluFlags o).cfg = s.cfg := rfl

@[simp] theorem State.setT_cfg (s : State) (t : Bool) : (s.setT t).cfg = s.cfg := rfl

@[simp] theorem State.sent_cfg (s : State) (e : CpEvent) : (s.sent e).cfg = s.cfg := rfl

@[simp] theorem setMultiplyFlags_cfg (n z : Bool) (s : State) : (setMultiplyFlags n z s).cfg = s.cfg := rfl

@[simp] theorem enterException_cfg (e : ExceptionKind) (l p : Word) (s : State) : (enterException e l p s).cfg = s.cfg := by
  simp [enterException]

@[simp] theorem takeException_cfg (e : ExceptionKind) (s : State) : (takeException e s).cfg = s.cfg := enterException_cfg ..

@[simp] theorem writeBack_cfg (t : Transfer) (rn : RegNo) (s : State) : (writeBack t rn s).cfg = s.cfg := by
  unfold writeBack; split <;> simp

@[simp] theorem abortBase_cfg (t : Transfer) (rn : RegNo) (s : State) : (abortBase t rn s).cfg = s.cfg := by
  unfold abortBase; split <;> simp

@[simp] theorem writeBackMultiple_cfg (w : Bool) (rn : RegNo) (b : Word) (s : State) : (writeBackMultiple w rn b s).cfg = s.cfg := by
  unfold writeBackMultiple; split <;> simp

@[simp] theorem State.sampled_cfg (s : State) : s.sampled.cfg = s.cfg := rfl

@[simp] theorem State.setSpsr_banks (s : State) (m : Option Mode) (v : Word) : (s.setSpsr m v).banks = s.banks := by
  unfold State.setSpsr; split <;> rfl

@[simp] theorem State.setAluFlags_banks (s : State) (o : AluOut) : (s.setAluFlags o).banks = s.banks := rfl

@[simp] theorem State.setT_banks (s : State) (t : Bool) : (s.setT t).banks = s.banks := rfl

@[simp] theorem State.sent_banks (s : State) (e : CpEvent) : (s.sent e).banks = s.banks := rfl

@[simp] theorem setMultiplyFlags_banks (n z : Bool) (s : State) : (setMultiplyFlags n z s).banks = s.banks := rfl

@[simp] theorem State.sampled_banks (s : State) : s.sampled.banks = s.banks := rfl

@[simp] theorem State.setSpsr_pc (s : State) (m : Option Mode) (v : Word) : (s.setSpsr m v).pc = s.pc := by
  unfold State.setSpsr; split <;> rfl

@[simp] theorem State.setAluFlags_pc (s : State) (o : AluOut) : (s.setAluFlags o).pc = s.pc := rfl

@[simp] theorem State.setT_pc (s : State) (t : Bool) : (s.setT t).pc = s.pc := rfl

@[simp] theorem State.sent_pc (s : State) (e : CpEvent) : (s.sent e).pc = s.pc := rfl

@[simp] theorem setMultiplyFlags_pc (n z : Bool) (s : State) : (setMultiplyFlags n z s).pc = s.pc := rfl

@[simp] theorem State.sampled_pc (s : State) : s.sampled.pc = s.pc := rfl

@[simp] theorem State.setSpsr_cpsr (s : State) (m : Option Mode) (v : Word) : (s.setSpsr m v).cpsr = s.cpsr := by
  unfold State.setSpsr; split <;> rfl

@[simp] theorem State.sent_cpsr (s : State) (e : CpEvent) : (s.sent e).cpsr = s.cpsr := rfl

@[simp] theorem writeBack_cpsr (t : Transfer) (rn : RegNo) (s : State) : (writeBack t rn s).cpsr = s.cpsr := by
  unfold writeBack; split <;> simp

@[simp] theorem abortBase_cpsr (t : Transfer) (rn : RegNo) (s : State) : (abortBase t rn s).cpsr = s.cpsr := by
  unfold abortBase; split <;> simp

@[simp] theorem writeBackMultiple_cpsr (w : Bool) (rn : RegNo) (b : Word) (s : State) : (writeBackMultiple w rn b s).cpsr = s.cpsr := by
  unfold writeBackMultiple; split <;> simp

@[simp] theorem State.sampled_cpsr (s : State) : s.sampled.cpsr = s.cpsr := rfl

@[simp] theorem State.setAluFlags_spsr (s : State) (o : AluOut) : (s.setAluFlags o).spsr = s.spsr := rfl

@[simp] theorem State.setT_spsr (s : State) (t : Bool) : (s.setT t).spsr = s.spsr := rfl

@[simp] theorem State.sent_spsr (s : State) (e : CpEvent) : (s.sent e).spsr = s.spsr := rfl

@[simp] theorem setMultiplyFlags_spsr (n z : Bool) (s : State) : (setMultiplyFlags n z s).spsr = s.spsr := rfl

@[simp] theorem writeBack_spsr (t : Transfer) (rn : RegNo) (s : State) : (writeBack t rn s).spsr = s.spsr := by
  unfold writeBack; split <;> simp

@[simp] theorem abortBase_spsr (t : Transfer) (rn : RegNo) (s : State) : (abortBase t rn s).spsr = s.spsr := by
  unfold abortBase; split <;> simp

@[simp] theorem writeBackMultiple_spsr (w : Bool) (rn : RegNo) (b : Word) (s : State) : (writeBackMultiple w rn b s).spsr = s.spsr := by
  unfold writeBackMultiple; split <;> simp

@[simp] theorem State.sampled_spsr (s : State) : s.sampled.spsr = s.spsr := rfl

@[simp] theorem State.setSpsr_mem (s : State) (m : Option Mode) (v : Word) : (s.setSpsr m v).mem = s.mem := by
  unfold State.setSpsr; split <;> rfl

@[simp] theorem State.setAluFlags_mem (s : State) (o : AluOut) : (s.setAluFlags o).mem = s.mem := rfl

@[simp] theorem State.setT_mem (s : State) (t : Bool) : (s.setT t).mem = s.mem := rfl

@[simp] theorem State.sent_mem (s : State) (e : CpEvent) : (s.sent e).mem = s.mem := rfl

@[simp] theorem setMultiplyFlags_mem (n z : Bool) (s : State) : (setMultiplyFlags n z s).mem = s.mem := rfl

@[simp] theorem enterException_mem (e : ExceptionKind) (l p : Word) (s : State) : (enterException e l p s).mem = s.mem := by
  simp [enterException]

@[simp] theorem takeException_mem (e : ExceptionKind) (s : State) : (takeException e s).mem = s.mem := enterException_mem ..

@[simp] theorem writeBack_mem (t : Transfer) (rn : RegNo) (s : State) : (writeBack t rn s).mem = s.mem := by
  unfold writeBack; split <;> simp

@[simp] theorem abortBase_mem (t : Transfer) (rn : RegNo) (s : State) : (abortBase t rn s).mem = s.mem := by
  unfold abortBase; split <;> simp

@[simp] theorem writeBackMultiple_mem (w : Bool) (rn : RegNo) (b : Word) (s : State) : (writeBackMultiple w rn b s).mem = s.mem := by
  unfold writeBackMultiple; split <;> simp

@[simp] theorem State.sampled_mem (s : State) : s.sampled.mem = s.mem := rfl

@[simp] theorem State.setSpsr_lines (s : State) (m : Option Mode) (v : Word) : (s.setSpsr m v).lines = s.lines := by
  unfold State.setSpsr; split <;> rfl

@[simp] theorem State.setAluFlags_lines (s : State) (o : AluOut) : (s.setAluFlags o).lines = s.lines := rfl

@[simp] theorem State.setT_lines (s : State) (t : Bool) : (s.setT t).lines = s.lines := rfl

@[simp] theorem State.sent_lines (s : State) (e : CpEvent) : (s.sent e).lines = s.lines := rfl

@[simp] theorem setMultiplyFlags_lines (n z : Bool) (s : State) : (setMultiplyFlags n z s).lines = s.lines := rfl

@[simp] theorem enterException_lines (e : ExceptionKind) (l p : Word) (s : State) : (enterException e l p s).lines = s.lines := by
  simp [enterException]

@[simp] theorem takeException_lines (e : ExceptionKind) (s : State) : (takeException e s).lines = s.lines := enterException_lines ..

@[simp] theorem writeBack_lines (t : Transfer) (rn : RegNo) (s : State) : (writeBack t rn s).lines = s.lines := by
  unfold writeBack; split <;> simp

@[simp] theorem abortBase_lines (t : Transfer) (rn : RegNo) (s : State) : (abortBase t rn s).lines = s.lines := by
  unfold abortBase; split <;> simp

@[simp] theorem writeBackMultiple_lines (w : Bool) (rn : RegNo) (b : Word) (s : State) : (writeBackMultiple w rn b s).lines = s.lines := by
  unfold writeBackMultiple; split <;> simp

@[simp] theorem State.setSpsr_cpReplies (s : State) (m : Option Mode) (v : Word) : (s.setSpsr m v).cpReplies = s.cpReplies := by
  unfold State.setSpsr; split <;> rfl

@[simp] theorem State.setAluFlags_cpReplies (s : State) (o : AluOut) : (s.setAluFlags o).cpReplies = s.cpReplies := rfl

@[simp] theorem State.setT_cpReplies (s : State) (t : Bool) : (s.setT t).cpReplies = s.cpReplies := rfl

@[simp] theorem State.sent_cpReplies (s : State) (e : CpEvent) : (s.sent e).cpReplies = s.cpReplies := rfl

@[simp] theorem setMultiplyFlags_cpReplies (n z : Bool) (s : State) : (setMultiplyFlags n z s).cpReplies = s.cpReplies := rfl

@[simp] theorem enterException_cpReplies (e : ExceptionKind) (l p : Word) (s : State) : (enterException e l p s).cpReplies = s.cpReplies := by
  simp [enterException]

@[simp] theorem takeException_cpReplies (e : ExceptionKind) (s : State) : (takeException e s).cpReplies = s.cpReplies := enterException_cpReplies ..

@[simp] theorem writeBack_cpReplies (t : Transfer) (rn : RegNo) (s : State) : (writeBack t rn s).cpReplies = s.cpReplies := by
  unfold writeBack; split <;> simp

@[simp] theorem abortBase_cpReplies (t : Transfer) (rn : RegNo) (s : State) : (abortBase t rn s).cpReplies = s.cpReplies := by
  unfold abortBase; split <;> simp

@[simp] theorem writeBackMultiple_cpReplies (w : Bool) (rn : RegNo) (b : Word) (s : State) : (writeBackMultiple w rn b s).cpReplies = s.cpReplies := by
  unfold writeBackMultiple; split <;> simp

@[simp] theorem State.sampled_cpReplies (s : State) : s.sampled.cpReplies = s.cpReplies := rfl

@[simp] theorem State.setSpsr_cpSent (s : State) (m : Option Mode) (v : Word) : (s.setSpsr m v).cpSent = s.cpSent := by
  unfold State.setSpsr; split <;> rfl

@[simp] theorem State.setAluFlags_cpSent (s : State) (o : AluOut) : (s.setAluFlags o).cpSent = s.cpSent := rfl

@[simp] theorem State.setT_cpSent (s : State) (t : Bool) : (s.setT t).cpSent = s.cpSent := rfl

@[simp] theorem setMultiplyFlags_cpSent (n z : Bool) (s : State) : (setMultiplyFlags n z s).cpSent = s.cpSent := rfl

@[simp] theorem enterException_cpSent (e : ExceptionKind) (l p : Word) (s : State) : (enterException e l p s).cpSent = s.cpSent := by
  simp [enterException]

@[simp] theorem takeException_cpSent (e : ExceptionKind) (s : State) : (takeException e s).cpSent = s.cpSent := enterException_cpSent ..

@[simp] theorem writeBack_cpSent (t : Transfer) (rn : RegNo) (s : State) : (writeBack t rn s).cpSent = s.cpSent := by
  unfold writeBack; split <;> simp

@[simp] theorem abortBase_cpSent (t : Transfer) (rn : RegNo) (s : State) : (abortBase t rn s).cpSent = s.cpSent := by
  unfold abortBase; split <;> simp

@[simp] theorem writeBackMultiple_cpSent (w : Bool) (rn : RegNo) (b : Word) (s : State) : (writeBackMultiple w rn b s).cpSent = s.cpSent := by
  unfold writeBackMultiple; split <;> simp

@[simp] theorem State.sampled_cpSent (s : State) : s.sampled.cpSent = s.cpSent := rfl

@[simp] theorem State.setSpsr_userBankWindow (s : State) (m : Option Mode) (v : Word) : (s.setSpsr m v).userBankWindow = s.userBankWindow := by
  unfold State.setSpsr; split <;> rfl

@[simp] theorem State.setAluFlags_userBankWindow (s : State) (o : AluOut) : (s.setAluFlags o).userBankWindow = s.userBankWindow := rfl

@[simp] theorem State.setT_userBankWindow (s : State) (t : Bool) : (s.setT t).userBankWindow = s.userBankWindow := rfl

@[simp] theorem State.sent_userBankWindow (s : State) (e : CpEvent) : (s.sent e).userBankWindow = s.userBankWindow := rfl

@[simp] theorem setMultiplyFlags_userBankWindow (n z : Bool) (s : State) : (setMultiplyFlags n z s).userBankWindow = s.userBankWindow := rfl

@[simp] theorem writeBack_userBankWindow (t : Transfer) (rn : RegNo) (s : State) : (writeBack t rn s).userBankWindow = s.userBankWindow := by
  unfold writeBack; split <;> simp

@[simp] theorem abortBase_userBankWindow (t : Transfer) (rn : RegNo) (s : State) : (abortBase t rn s).userBankWindow = s.userBankWindow := by
  unfold abortBase; split <;> simp

@[simp] theorem writeBackMultiple_userBankWindow (w : Bool) (rn : RegNo) (b : Word) (s : State) : (writeBackMultiple w rn b s).userBankWindow = s.userBankWindow := by
  unfold writeBackMultiple; split <;> simp

@[simp] theorem State.sampled_userBankWindow (s : State) : s.sampled.userBankWindow = s.userBankWindow := rfl

@[simp] theorem State.setSpsr_draws (s : State) (m : Option Mode) (v : Word) : (s.setSpsr m v).draws = s.draws := by
  unfold State.setSpsr; split <;> rfl

@[simp] theorem State.setAluFlags_draws (s : State) (o : AluOut) : (s.setAluFlags o).draws = s.draws := rfl

@[simp] theorem State.setT_draws (s : State) (t : Bool) : (s.setT t).draws = s.draws := rfl

@[simp] theorem State.sent_draws (s : State) (e : CpEvent) : (s.sent e).draws = s.draws := rfl

@[simp] theorem enterException_draws (e : ExceptionKind) (l p : Word) (s : State) : (enterException e l p s).draws = s.draws := by
  simp [enterException]

@[simp] theorem takeException_draws (e : ExceptionKind) (s : State) : (takeException e s).draws = s.draws := enterException_draws ..

@[simp] theorem writeBack_draws (t : Transfer) (rn : RegNo) (s : State) : (writeBack t rn s).draws = s.draws := by
  unfold writeBack; split <;> simp

@[simp] theorem abortBase_draws (t : Transfer) (rn : RegNo) (s : State) : (abortBase t rn s).draws = s.draws := by
  unfold abortBase; split <;> simp

@[simp] theorem writeBackMultiple_draws (w : Bool) (rn : RegNo) (b : Word) (s : State) : (writeBackMultiple w rn b s).draws = s.draws := by
  unfold writeBackMultiple; split <;> simp

@[simp] theorem State.sampled_draws (s : State) : s.sampled.draws = s.draws := rfl

@[simp] theorem State.setAluFlags_cpsr (s : State) (o : AluOut) : (s.setAluFlags o).cpsr = psrWithAlu s.cpsr o := rfl

@[simp] theorem State.setT_cpsr (s : State) (t : Bool) : (s.setT t).cpsr = s.cpsrFrom (psrWithT s.cpsr t) := rfl

@[simp] theorem State.setPhys_pc_self (s : State) (v : Word) : (s.setPhys .pc v).pc = v := rfl

theorem State.setPhys_pc (s : State) {q : PhysReg} (h : q ≠ .pc) (v : Word) : (s.setPhys q v).pc = s.pc := by
  cases q <;> first | rfl | exact absurd rfl h

/-- A physical register just written reads back. -/
@[simp] theorem State.getPhys_setPhys_same (s : State) (q : PhysReg) (v : Word) : (s.setPhys q v).getPhys q = v := by
  cases q <;> simp [State.getPhys, State.setPhys]

/-- Writing a physical register leaves every other one. -/
theorem State.getPhys_setPhys_other (s : State) {q q' : PhysReg} (h : q' ≠ q) (v : Word) :
    (s.setPhys q v).getPhys q' = s.getPhys q' := by
  cases q <;> cases q' <;> first
    | rfl
    | exact absurd rfl h
    | (rename_i i j
       have hij : i.val ≠ j.val := fun hh => h (by rw [Fin.ext hh])
       simp [State.getPhys, State.setPhys, hij])

@[simp] theorem State.setReg_mode (s : State) (r : RegNo) (v : Word) : (s.setReg r v).mode = s.mode := by
  simp [State.mode]

@[simp] theorem State.setPhys_mode (s : State) (q : PhysReg) (v : Word) : (s.setPhys q v).mode = s.mode := by
  simp [State.mode]

@[simp] theorem State.setReg_phys (s : State) (r r' : RegNo) (v : Word) : (s.setReg r v).phys r' = s.phys r' := by
  simp [State.phys]

/-- r15 is the pc in every mode. -/
@[simp] theorem bank_r15 (m : Option Mode) : bank m 15 = .pc := by simp [bank]

/-- No other register number names the pc. -/
theorem bank_ne_pc (m : Option Mode) {r : RegNo} (h : r ≠ 15) : bank m r ≠ .pc := by
  revert r; cases m with
  | none => decide
  | some m => cases m <;> decide

/-- Different register numbers name different physical registers of one mode. -/
theorem bank_injective (m : Option Mode) {r r' : RegNo} (h : bank m r = bank m r') : r = r' := by
  revert r r'; cases m with
  | none => decide
  | some m => cases m <;> decide

theorem State.phys_ne_pc (s : State) {r : RegNo} (h : r ≠ 15) : s.phys r ≠ .pc := bank_ne_pc _ h

theorem State.setReg_pc (s : State) {r : RegNo} (h : r ≠ 15) (v : Word) : (s.setReg r v).pc = s.pc :=
  s.setPhys_pc (s.phys_ne_pc h) v

/-- A register just written reads back in the same mode. -/
theorem State.reg_setReg_same (s : State) {r : RegNo} (h : r ≠ 15) (v : Word) : (s.setReg r v).reg r = v := by
  rw [State.reg, if_neg h, State.setReg_phys]; exact State.getPhys_setPhys_same ..

/-- Writing a register leaves the others of the mode. -/
theorem State.reg_setReg_other (s : State) {r r' : RegNo} (hr : r ≠ 15) (h : r' ≠ r) (v : Word) :
    (s.setReg r v).reg r' = s.reg r' := by
  unfold State.reg
  split
  · rw [s.setReg_pc hr]
  · rw [State.setReg_phys]
    exact s.getPhys_setPhys_other (fun hh => h (bank_injective _ hh)) v

end Sys2Proof.Machine
end

