-- ==== Sys2Proof/Laws/Ops.lean ====
section
/-! SUPPORT. One lemma for each shared operation that says all it can do: "it answers the next state t exactly when …". -/

namespace Sys2Proof.Machine

/-! ### Reads that the field of the hazard does not touch -/

@[simp] theorem State.reg_window (s : State) (b : Bool) (r : RegNo) : State.reg { s with userBankWindow := b } r = s.reg r := rfl
@[simp] theorem State.phys_window (s : State) (b : Bool) (r : RegNo) : State.phys { s with userBankWindow := b } r = s.phys r := rfl
@[simp] theorem State.mode_window (s : State) (b : Bool) : State.mode { s with userBankWindow := b } = s.mode := rfl
@[simp] theorem State.getPhys_window (s : State) (b : Bool) (q : PhysReg) :
    State.getPhys { s with userBankWindow := b } q = s.getPhys q := by cases q <;> rfl
@[simp] theorem State.currentSpsr_window (s : State) (b : Bool) :
    State.currentSpsr { s with userBankWindow := b } = s.currentSpsr := rfl
@[simp] theorem State.privileged_window (s : State) (b : Bool) : State.privileged { s with userBankWindow := b } = s.privileged := rfl
@[simp] theorem State.storedReg_window (s : State) (b : Bool) (m : Option Mode) (r : RegNo) :
    State.storedReg { s with userBankWindow := b } m r = s.storedReg m r := by
  unfold State.storedReg; split <;> simp
@[simp] theorem State.dataValue_window (s : State) (b : Bool) (a : Nat) (w : Width) :
    State.dataValue { s with userBankWindow := b } a w = s.dataValue a w := by cases w <;> rfl

/-- A register's value changes neither with the pc nor with a status word of the same mode field. -/
theorem State.getPhys_of_banks {s t : State} (h : t.banks = s.banks) {q : PhysReg} (hq : q ≠ .pc) : t.getPhys q = s.getPhys q := by
  cases q <;> first | (simp [State.getPhys, h]; done) | exact absurd rfl hq

/-! ### Ends of an instruction -/

theorem finish_next {s t : State} : finish s = .next t ↔ s.pc.toNat < 0xFFFFFFFC ∧ t = { s with pc := s.pc + 4 } := by
  unfold finish refuse; split
  · simp; omega
  · simp only [Host.Outcome.next.injEq, show s.pc.toNat < 0xFFFFFFFC by omega, true_and]; exact eq_comm

theorem finish_eq {s : State} (h : s.pc.toNat < 0xFFFFFFFC) : finish s = .next { s with pc := s.pc + 4 } := finish_next.2 ⟨h, rfl⟩

theorem branchTo_next {v : Word} {s t : State} :
    branchTo v s = .next t ↔ v.extractLsb' 0 2 = 0b00#2 ∧ t = { s with pc := v } := by
  unfold branchTo refuse; split
  · (simp_all; exact eq_comm)
  · simp_all

/-- What an exception return restores: the SPSR of the current mode, which must be there and hold a mode. -/
theorem State.returnPsr_ok {s : State} {p : Word} :
    s.returnPsr = .ok p ↔ ∃ q, s.currentSpsr = some q ∧ Mode.ofBits (psrMode q) ≠ none ∧ p = s.cpsrFrom q := by
  unfold State.returnPsr State.restorable
  constructor
  · intro h
    split at h
    · cases h
    · rename_i q hq
      split at h
      · cases h
      · rename_i m hm
        exact ⟨q, hq, by simp [hm], by injection h with h; exact h.symm⟩
  · rintro ⟨q, hq, hm, rfl⟩
    rw [hq]
    cases hb : Mode.ofBits (psrMode q) with
    | none => exact absurd hb hm
    | some m => simp [hb]

theorem exceptionReturn_next {v : Word} {s t : State} :
    exceptionReturn v s = .next t ↔
      ∃ p, s.returnPsr = .ok p ∧ (psrT p = true ∨ v.extractLsb' 0 2 = 0b00#2) ∧ t = { s with pc := v, cpsr := p } := by
  unfold exceptionReturn refuse
  cases hp : s.returnPsr with
  | error u => simp
  | ok p =>
    simp only [Except.ok.injEq, exists_eq_left', Bool.or_eq_true, decide_eq_true_eq]
    split
    · (simp_all; exact eq_comm)
    · simp_all

theorem branchExchange_next {v : Word} {s t : State} :
    branchExchange v s = .next t ↔
      v.extractLsb' 0 2 ≠ 0b10#2 ∧ t = { s.setT (v.getLsbD 0) with pc := v &&& 0xFFFFFFFE } := by
  unfold branchExchange refuse; split
  · simp_all
  · (simp_all; exact eq_comm)

theorem loadPc_v5t {s : State} (v : Word) (h : s.cfg.archV5T = true) :
    loadPc v s = { s.setT (v.getLsbD 0) with pc := v &&& 0xFFFFFFFE } := by simp [loadPc, h]

theorem loadPc_v4t {s : State} (v : Word) (h : s.cfg.archV5T = false) : loadPc v s = { s with pc := v &&& 0xFFFFFFFC } := by
  simp [loadPc, h]

/-! ### The frame of an instruction -/

theorem checked_next {i : Instr} {s t : State} {body : State → Result} :
    checked i s body = .next t ↔
      restriction i = none ∧ accessStop s (named i) = none ∧ body { s with userBankWindow := false } = .next t := by
  unfold checked refuse
  cases restriction i with
  | some u => simp
  | none =>
    cases accessStop s (named i) with
    | some u => simp
    | none => simp

theorem skip_next {s t : State} :
    skip s = .next t ↔ s.pc.toNat < 0xFFFFFFFC ∧ t = { s with pc := s.pc + 4, userBankWindow := false } := finish_next

/-- What an instruction outside the coprocessor instructions can do: be passed over, trap because it is absent, or run its body. -/
theorem guarded_next {i : Instr} {s t : State} {body : State → Result} :
    guarded i s body = .next t ↔
      (runs i s = false ∧ skip s = .next t) ∨
      (runs i s = true ∧ present s.cfg i = false ∧ t = takeException .undefined s) ∨
      (Ready i s ∧ body { s with userBankWindow := false } = .next t) := by
  unfold guarded Ready
  cases runs i s with
  | false => simp
  | true =>
    cases present s.cfg i with
    | false => simp; exact eq_comm
    | true => simp [checked_next, and_assoc]

/-- A ready instruction runs its body. -/
theorem guarded_ready {i : Instr} {s : State} (h : Ready i s) (body : State → Result) :
    guarded i s body = body { s with userBankWindow := false } := by
  obtain ⟨h1, h2, h3, h4⟩ := h
  simp [guarded, checked, h1, h2, h3, h4]

theorem guarded_skipped {i : Instr} {s : State} (h : runs i s = false) (body : State → Result) :
    guarded i s body = skip s := by simp [guarded, h]

theorem guarded_absent {i : Instr} {s : State} (h : runs i s = true) (hp : present s.cfg i = false) (body : State → Result) :
    guarded i s body = .next (takeException .undefined s) := by simp [guarded, h, hp]

theorem guarded_restricted {i : Instr} {s : State} {u : Unpredictable} (h : runs i s = true) (hp : present s.cfg i = true)
    (hr : restriction i = some u) (body : State → Result) : guarded i s body = refuse u := by
  simp [guarded, checked, h, hp, hr]

theorem guarded_stopped {i : Instr} {s : State} {u : Unpredictable} (h : runs i s = true) (hp : present s.cfg i = true)
    (hr : restriction i = none) (ha : accessStop s (named i) = some u) (body : State → Result) :
    guarded i s body = refuse u := by
  simp [guarded, checked, h, hp, hr, ha]

/-- What a coprocessor instruction can do (R351, R357). -/
theorem offered_next {i : Instr} {cp : BitVec 4} {s t : State} {body : Word → List Word → State → Result} :
    offered i cp s body = .next t ↔
      (runs i s = false ∧ skip s = .next t) ∨
      (runs i s = true ∧ cp ∉ s.cfg.coprocs ∧ t = takeException .undefined s) ∨
      (runs i s = true ∧ cp ∈ s.cfg.coprocs ∧
        ((∃ s1, cpAnswer cp (encode i) s = (.declines, s1) ∧ t = takeException .undefined s1) ∨
          cpAnswer cp (encode i) s = (.busy, t) ∨
          ∃ v vs s1, cpAnswer cp (encode i) s = (.accepts v vs, s1) ∧ checked i s1 (body v vs) = .next t)) := by
  unfold offered
  cases hr : runs i s with
  | false => simp
  | true =>
    by_cases hc : cp ∈ s.cfg.coprocs
    · obtain ⟨⟨r, s1⟩, ha⟩ : ∃ x, cpAnswer cp (encode i) s = x := ⟨_, rfl⟩
      cases r <;> simp [hc, ha] <;> exact eq_comm
    · simp [hc]; exact eq_comm

/-- Asking a coprocessor changes the queue of answers and the count of free values only. -/
theorem cpAnswer_state {cp : BitVec 4} {w : Word} {s s1 : State} {r : CpReply} (h : cpAnswer cp w s = (r, s1)) :
    s1 = { s with cpReplies := s1.cpReplies, draws := s1.draws } := by
  unfold cpAnswer at h
  split at h <;> (injection h with h1 h2; subst h2; rfl)

/-! ### Memory accesses -/

theorem memRead_done {w : Width} {addr v : Word} {priv : Bool} {s s1 : State} :
    memRead w addr priv s = .done (v, s1) ↔
      ∃ a, accessAddress s.cfg w addr = some a ∧ memAbort s.cfg a w .read priv = false ∧ v = s.dataValue a.toNat w ∧
        s1 = (if touchesDevice s.cfg a.toNat w then { s with draws := s.draws + 1 } else s) := by
  unfold memRead
  cases accessAddress s.cfg w addr with
  | none => simp
  | some a =>
    cases hb : memAbort s.cfg a w .read priv
    · simp only [hb, Bool.false_eq_true, if_false, Access.done.injEq, Prod.mk.injEq, Option.some.injEq, exists_eq_left', true_and]
      constructor <;> rintro ⟨rfl, rfl⟩ <;> exact ⟨rfl, rfl⟩
    · simp [hb]

theorem memRead_aborted {w : Width} {addr : Word} {priv : Bool} {s : State} :
    memRead w addr priv s = .aborted ↔ ∃ a, accessAddress s.cfg w addr = some a ∧ memAbort s.cfg a w .read priv = true := by
  unfold memRead
  cases accessAddress s.cfg w addr with
  | none => simp
  | some a => cases hb : memAbort s.cfg a w .read priv <;> simp [hb]

theorem memRead_unpredictable {w : Width} {addr : Word} {priv : Bool} {s : State} {u : Unpredictable} :
    memRead w addr priv s = .unpredictable u ↔ accessAddress s.cfg w addr = none ∧ u = .oddHalfword := by
  unfold memRead
  cases accessAddress s.cfg w addr with
  | none => simp only [Access.unpredictable.injEq, true_and]; exact eq_comm
  | some a => cases hb : memAbort s.cfg a w .read priv <;> simp [hb]

theorem memWrite_done {w : Width} {addr v : Word} {priv : Bool} {s s1 : State} :
    memWrite w addr v priv s = .done s1 ↔
      ∃ a, accessAddress s.cfg w addr = some a ∧ memAbort s.cfg a w .write priv = false ∧
        s1 = { s with mem := s.mem.writeBytes a.toNat v (Width.bytes w) } := by
  unfold memWrite
  cases accessAddress s.cfg w addr with
  | none => simp
  | some a =>
    cases hb : memAbort s.cfg a w .write priv
    · simp only [hb, Bool.false_eq_true, if_false, Access.done.injEq, Option.some.injEq, exists_eq_left', true_and]
      exact eq_comm
    · simp [hb]

theorem memWrite_aborted {w : Width} {addr v : Word} {priv : Bool} {s : State} :
    memWrite w addr v priv s = .aborted ↔
      ∃ a, accessAddress s.cfg w addr = some a ∧ memAbort s.cfg a w .write priv = true := by
  unfold memWrite
  cases accessAddress s.cfg w addr with
  | none => simp
  | some a => cases hb : memAbort s.cfg a w .write priv <;> simp [hb]

/-- An access stays inside the address space: the address is aligned to its width (R62, R63). -/
theorem accessAddress_fits {cfg : Config} {w : Width} {addr a : Word} (h : accessAddress cfg w addr = some a) :
    a.toNat + Width.bytes w ≤ 2 ^ 32 := by
  have hlt := a.isLt
  cases w with
  | byte => simp only [Width.bytes]; omega
  | half =>
    have ha : a.toNat % 2 = 0 := by
      have h0 : a.getLsbD 0 = false := by
        simp only [accessAddress] at h
        split at h
        · split at h
          · cases h
          · injection h with h; subst h; simp
        · injection h with h; subst h; exact Bool.eq_false_iff.2 ‹¬ _›
      rw [BitVec.getLsbD, Nat.testBit_zero] at h0; simpa using h0
    simp only [Width.bytes]; omega
  | word =>
    have ha : a.toNat % 4 = 0 := by
      have h0 : a.getLsbD 0 = false ∧ a.getLsbD 1 = false := by
        simp only [accessAddress, Option.some.injEq] at h; subst h; simp
      have h1 : a.toNat.testBit 0 = false := h0.1
      have h2 : a.toNat.testBit 1 = false := h0.2
      rw [Nat.testBit_zero] at h1
      rw [Nat.testBit_succ, Nat.testBit_zero] at h2
      simp at h1 h2; omega
    simp only [Width.bytes]; omega

/-- A load that answers a next state: it aborts, or `k` goes on with the value and the base written back. -/
theorem loadThen_next {w : Width} {priv : Bool} {tr : Transfer} {rn : RegNo} {s t : State} {k : Word → State → Result} :
    loadThen w priv tr rn s k = .next t ↔
      (memRead w tr.address priv s = .aborted ∧ t = takeException .dataAbort (abortBase tr rn s)) ∨
      ∃ v s1, memRead w tr.address priv s = .done (v, s1) ∧ k v (writeBack tr rn s1) = .next t := by
  unfold loadThen refuse
  cases memRead w tr.address priv s with
  | done p => obtain ⟨v, s1⟩ := p; simp
  | aborted => simp; exact eq_comm
  | unpredictable u => simp

theorem afterStores_next {s s1 t : State} {k : Result} :
    afterStores s s1 k = .next t ↔ pipelineChanged s.pc s.mem s1.mem = false ∧ k = .next t := by
  unfold afterStores refuse
  cases pipelineChanged s.pc s.mem s1.mem <;> simp

/-- A store that answers a next state: it aborts, or the bytes are stored, the base written back and the pc advanced. -/
theorem storeThen_next {w : Width} {priv : Bool} {tr : Transfer} {rn : RegNo} {v : Word} {s t : State} :
    storeThen w priv tr rn v s = .next t ↔
      (memWrite w tr.address v priv s = .aborted ∧ t = takeException .dataAbort (abortBase tr rn s)) ∨
      ∃ s1, memWrite w tr.address v priv s = .done s1 ∧ pipelineChanged s.pc s.mem s1.mem = false ∧
        finish (writeBack tr rn s1) = .next t := by
  unfold storeThen refuse
  cases memWrite w tr.address v priv s with
  | done s1 => simp [afterStores_next]
  | aborted => simp; exact eq_comm
  | unpredictable u => simp

/-! ### Data processing -/

theorem dataResult_next {sf : Bool} {rd : RegNo} {o : AluOut} {s t : State} :
    dataResult sf rd o s = .next t ↔
      (rd = 15 ∧ sf = true ∧ exceptionReturn o.result s = .next t) ∨ (rd = 15 ∧ sf = false ∧ branchTo o.result s = .next t) ∨
      (rd ≠ 15 ∧ finish ((if sf then s.setAluFlags o else s).setReg rd o.result) = .next t) := by
  unfold dataResult
  by_cases h : rd = 15
  · rw [if_pos h]; cases sf <;> simp [h]
  · rw [if_neg h]; simp only [h, false_and, false_or, ne_eq, not_false_eq_true, true_and]

end Sys2Proof.Machine
end

