-- ==== Sys2Proof/Laws/Blocks.lean ====
section
/-! SUPPORT. What an exception entry leaves, and what the loops of the block and coprocessor transfers can do; memory keeps its canonical
form through every memory operation. -/

namespace Sys2Proof.Machine

/-! ### Exception entry -/

theorem Mode.ofBits_bits (m : Mode) : Mode.ofBits m.bits = some m := by cases m <;> rfl

@[simp] theorem psrMode_onEntry (p : Word) (m : Mode) (f : Bool) : psrMode (psrOnEntry p m f) = m.bits := by
  apply BitVec.eq_of_getLsbD_eq; intro i hi
  simp only [psrMode, psrOnEntry, BitVec.getLsbD_extractLsb', BitVec.getLsbD_append, hi, Nat.zero_add, decide_true, Bool.true_and, if_true]

@[simp] theorem psrT_onEntry (p : Word) (m : Mode) (f : Bool) : psrT (psrOnEntry p m f) = false := by
  simp only [psrT, psrOnEntry, bit, BitVec.getLsbD_append]; simp

@[simp] theorem psrI_onEntry (p : Word) (m : Mode) (f : Bool) : psrI (psrOnEntry p m f) = true := by
  simp only [psrI, psrOnEntry, bit, BitVec.getLsbD_append]; simp

@[simp] theorem psrF_onEntry (p : Word) (m : Mode) (f : Bool) : psrF (psrOnEntry p m f) = (f || psrF p) := by
  simp only [psrF, psrOnEntry, bit, BitVec.getLsbD_append]; simp

@[simp] theorem enterException_cpsr (e : ExceptionKind) (l p : Word) (s : State) :
    (enterException e l p s).cpsr = psrOnEntry s.cpsr e.mode e.masksFiq := rfl

@[simp] theorem enterException_pc (e : ExceptionKind) (l p : Word) (s : State) : (enterException e l p s).pc = s.vector e := rfl

@[simp] theorem enterException_mode (e : ExceptionKind) (l p : Word) (s : State) : (enterException e l p s).mode = some e.mode := by
  simp [State.mode, Mode.ofBits_bits]

/-- The link goes to the banked r14 of the mode entered. -/
@[simp] theorem enterException_link (e : ExceptionKind) (l p : Word) (s : State) :
    (enterException e l p s).getPhys (bank (some e.mode) 14) = l := by
  cases e <;> simp [enterException, ExceptionKind.mode, bank, State.setSpsr, State.getPhys, State.setPhys]

/-- The saved status goes to the SPSR of the mode entered. -/
@[simp] theorem enterException_currentSpsr (e : ExceptionKind) (l p : Word) (s : State) :
    (enterException e l p s).currentSpsr = some p := by
  rw [State.currentSpsr, enterException_mode]
  cases e <;> rfl

/-- No other register changes but the pc. -/
theorem enterException_other (e : ExceptionKind) (l p : Word) (s : State) {q : PhysReg} (hp : q ≠ .pc)
    (hq : q ≠ bank (some e.mode) 14) : (enterException e l p s).getPhys q = s.getPhys q := by
  have h1 : (enterException e l p s).banks = (s.setPhys (bank (some e.mode) 14) l).banks := by simp [enterException]
  rw [State.getPhys_of_banks h1 hp, State.getPhys_setPhys_other s hq]

/-! ### Memory keeps its canonical form -/

theorem memRead_state {w : Width} {addr v : Word} {priv : Bool} {s s1 : State} (h : memRead w addr priv s = .done (v, s1)) :
    s1 = { s with draws := s1.draws } := by
  obtain ⟨a, _, _, _, rfl⟩ := memRead_done.1 h
  split <;> rfl

theorem memWrite_state {w : Width} {addr v : Word} {priv : Bool} {s s1 : State} (h : memWrite w addr v priv s = .done s1) :
    s1 = { s with mem := s1.mem } := by
  obtain ⟨a, _, _, rfl⟩ := memWrite_done.1 h
  rfl

theorem memWrite_wf {w : Width} {addr v : Word} {priv : Bool} {s s1 : State} (hm : s.mem.wf)
    (h : memWrite w addr v priv s = .done s1) : s1.mem.wf := by
  obtain ⟨a, ha, _, rfl⟩ := memWrite_done.1 h
  exact Memory.writeBytes_wf hm v (accessAddress_fits ha)

theorem reset_wf : State.reset.mem.wf := by decide

/-- Placing an instruction at an aligned pc keeps the form. -/
theorem placeWord_wf (w : Word) {s : State} (hm : s.mem.wf) (hpc : s.pc.toNat + 4 ≤ 2 ^ 32) : (placeWord w s).mem.wf :=
  Memory.writeBytes_wf hm w hpc

/-! ### Block transfers -/

/-- All the loads of a block transfer can do when none aborts: only the registers of the list and the count of free values change. -/
theorem loadBlock_complete {m : Option Mode} {regs : List RegNo} {a a' : Word} {s s1 : State}
    (h : loadBlock m regs a s = .complete a' s1) (hr : 15 ∉ regs) :
    a' = a + BitVec.ofNat 32 (4 * regs.length) ∧ s1 = { s with banks := s1.banks, draws := s1.draws } ∧
      ∀ q, q ∉ regs.map (bank m) → s1.getPhys q = s.getPhys q := by
  induction regs generalizing a s with
  | nil => simp only [loadBlock, BlockLoad.complete.injEq] at h; obtain ⟨rfl, rfl⟩ := h; simp
  | cons r regs ih =>
    rw [loadBlock] at h
    split at h
    · rename_i v s2 hv
      simp only [List.mem_cons, not_or] at hr
      obtain ⟨h1, h2, h3⟩ := ih h hr.2
      have hs := memRead_state hv
      have hb : bank m r ≠ .pc := bank_ne_pc m (Ne.symm hr.1)
      refine ⟨?_, ?_, fun q hq => ?_⟩
      · rw [h1, List.length_cons]
        rw [BitVec.add_assoc]; congr 1; apply BitVec.eq_of_toNat_eq; rw [BitVec.toNat_add, show (4 : Word).toNat = 4 from rfl]; simp only [BitVec.toNat_ofNat]; omega
      · rw [h2, hs]
        cases hq : bank m r <;> first | exact absurd hq hb | rfl
      · simp only [List.map_cons, List.mem_cons, not_or] at hq
        rw [h3 q hq.2, State.getPhys_setPhys_other s2 hq.1, hs]
        cases q <;> rfl
    · cases h

/-- The stores of a block transfer change memory only, and keep its form. -/
theorem storeBlock_state {vs : List Word} {a : Word} {f f' : Bool} {s s1 : State} (h : storeBlock vs a f s = (f', s1)) :
    s1 = { s with mem := s1.mem } ∧ (s.mem.wf → s1.mem.wf) := by
  induction vs generalizing a f s with
  | nil => simp only [storeBlock, Prod.mk.injEq] at h; obtain ⟨rfl, rfl⟩ := h; exact ⟨rfl, fun h => h⟩
  | cons v vs ih =>
    rw [storeBlock] at h
    split at h
    · rename_i s2 hw
      obtain ⟨h1, h2⟩ := ih h
      refine ⟨?_, fun hm => h2 (memWrite_wf hm hw)⟩
      rw [h1, memWrite_state hw]
    · exact ih h

/-- A draw fills registers of the list alone. -/
theorem drawRegs_state {m : Option Mode} {regs : List RegNo} {s : State} (hr : 15 ∉ regs) :
    drawRegs m regs s = { s with banks := (drawRegs m regs s).banks, draws := (drawRegs m regs s).draws } := by
  induction regs generalizing s with
  | nil => rfl
  | cons r regs ih =>
    simp only [List.mem_cons, not_or] at hr
    rw [drawRegs, ih hr.2]
    have hb : bank m r ≠ .pc := bank_ne_pc m (Ne.symm hr.1)
    cases hq : bank m r <;> first | exact absurd hq hb | rfl

/-! ### Coprocessor transfers -/

/-- The words of an LDC change the record of what passed, and the count of free values. -/
theorem takeWords_state {cp : BitVec 4} {w : Word} {n k : Nat} {a : Word} {f : Bool} {s s1 : State}
    (h : takeWords cp w n k a s = (f, s1)) : s1 = { s with cpSent := s1.cpSent, draws := s1.draws } := by
  induction n generalizing k a s with
  | zero => simp only [takeWords, Prod.mk.injEq] at h; obtain ⟨_, rfl⟩ := h; rfl
  | succ n ih =>
    rw [takeWords] at h
    split at h
    · rename_i v s2 hv
      rw [ih h, memRead_state hv]; rfl
    · simp only [Prod.mk.injEq] at h; obtain ⟨_, rfl⟩ := h; rfl

/-- The words of an STC change memory and the record of what passed; memory keeps its form. -/
theorem giveWords_state {cp : BitVec 4} {w : Word} {vs : List Word} {k : Nat} {a : Word} {f : Bool} {s s1 : State}
    (h : giveWords cp w vs k a s = (f, s1)) :
    s1 = { s with mem := s1.mem, cpSent := s1.cpSent } ∧ (s.mem.wf → s1.mem.wf) := by
  induction vs generalizing k a s with
  | nil => simp only [giveWords, Prod.mk.injEq] at h; obtain ⟨_, rfl⟩ := h; exact ⟨rfl, fun h => h⟩
  | cons v vs ih =>
    rw [giveWords] at h
    split at h
    · rename_i s2 hw
      obtain ⟨h1, h2⟩ := ih h
      refine ⟨?_, fun hm => h2 (memWrite_wf (by simpa using hm) hw)⟩
      rw [h1, memWrite_state hw]; rfl
    · simp only [Prod.mk.injEq] at h; obtain ⟨_, rfl⟩ := h; exact ⟨rfl, fun h => h⟩

/-- The registers of a list, the lowest first: each number whose bit is set, once. -/
theorem mem_listedRegs {n : Nat} (hn : n ≤ 16) (list : BitVec n) (r : RegNo) :
    r ∈ listedRegs list ↔ list.getLsbD r.toNat = true := by
  have hr : r.toNat < 16 := r.isLt
  simp only [listedRegs, List.mem_map, List.mem_filter, List.mem_range]
  constructor
  · rintro ⟨i, ⟨hi, hb⟩, rfl⟩
    simpa [BitVec.toNat_ofNat, Nat.mod_eq_of_lt (by omega : i < 16)] using hb
  · intro hb
    refine ⟨r.toNat, ⟨?_, hb⟩, by simp⟩
    exact Decidable.byContradiction fun h => by simp [BitVec.getLsbD_of_ge _ _ (Nat.le_of_not_lt h)] at hb

end Sys2Proof.Machine
end

