-- ==== Sys2Proof/Laws/Cycle.lean ====
section
/-! SUPPORT. What one step can do, that it leaves the pc word aligned in ARM state, and that a finished run stays finished (spec/40_execution_and_conditions.md R141, R148). -/

namespace Sys2Proof.Machine

/-! ### The end of a step -/

@[simp] theorem State.aligned_cfg (s : State) : s.aligned.cfg = s.cfg := rfl
@[simp] theorem State.aligned_banks (s : State) : s.aligned.banks = s.banks := rfl
@[simp] theorem State.aligned_cpsr (s : State) : s.aligned.cpsr = s.cpsr := rfl
@[simp] theorem State.aligned_spsr (s : State) : s.aligned.spsr = s.spsr := rfl
@[simp] theorem State.aligned_mem (s : State) : s.aligned.mem = s.mem := rfl
@[simp] theorem State.aligned_lines (s : State) : s.aligned.lines = s.lines := rfl
@[simp] theorem State.aligned_mode (s : State) : s.aligned.mode = s.mode := rfl
@[simp] theorem State.aligned_currentSpsr (s : State) : s.aligned.currentSpsr = s.currentSpsr := rfl

/-- Bits 1:0 cleared leave a word-aligned address. -/
theorem clear_low_bits (v : Word) : (v &&& 0xFFFFFFFC).extractLsb' 0 2 = 0b00#2 := by
  apply BitVec.eq_of_getLsbD_eq
  intro i hi
  have : i = 0 ∨ i = 1 := by omega
  rcases this with rfl | rfl <;> simp

/-- A word-aligned address has no low bits to clear. -/
theorem clear_aligned {v : Word} (h : v.extractLsb' 0 2 = 0b00#2) : v &&& 0xFFFFFFFC = v := by
  have h0 : v.getLsbD 0 = false := by
    have := congrArg (fun b : BitVec 2 => b.getLsbD 0) h
    simpa using this
  have h1 : v.getLsbD 1 = false := by
    have := congrArg (fun b : BitVec 2 => b.getLsbD 1) h
    simpa using this
  have hm : ∀ i < 32, (0xFFFFFFFC : Word).getLsbD i = (decide (2 ≤ i)) := by decide
  apply BitVec.eq_of_getLsbD_eq
  intro i hi
  rw [BitVec.getLsbD_and, hm i hi]
  by_cases h2 : 2 ≤ i
  · simp [h2]
  · have : i = 0 ∨ i = 1 := by omega
    rcases this with rfl | rfl <;> simp only [h0, h1, Bool.false_and]

/-- A state whose pc is word aligned, or that is in Thumb state, is left as it is. -/
theorem State.aligned_eq {s : State} (h : psrT s.cpsr = true ∨ s.pc.extractLsb' 0 2 = 0b00#2) : s.aligned = s := by
  unfold State.aligned
  rcases h with h | h
  · rw [if_pos h, ite_self]
  · rw [if_pos h]

/-- In ARM state the pc loses its bits 1:0. -/
theorem State.aligned_pc {s : State} (h : psrT s.cpsr = false) : s.aligned.pc = s.pc &&& 0xFFFFFFFC := by
  show (if s.pc.extractLsb' 0 2 = 0b00#2 then s.pc else if psrT s.cpsr then s.pc else s.pc &&& 0xFFFFFFFC) = _
  split
  · exact (clear_aligned ‹_›).symm
  · rw [h]; rfl

/-- In ARM state the pc is word aligned at the end of a step (R27, R70). -/
theorem State.aligned_low {s : State} (h : psrT s.aligned.cpsr = false) : s.aligned.pc.extractLsb' 0 2 = 0b00#2 := by
  rw [State.aligned_pc (show psrT s.cpsr = false from h)]; exact clear_low_bits s.pc

theorem settle_next {r : Result} {t : State} : settle r = .next t ↔ ∃ t', r = .next t' ∧ t = t'.aligned := by
  cases r <;> simp [settle, eq_comm]

/-! ### The step -/

theorem fetchAndExecute_aborted {s : State} (h : fetch s = none) :
    fetchAndExecute s = .next (takeException .prefetchAbort s) := by simp [fetchAndExecute, h]

theorem fetchAndExecute_aligned {s : State} {w : Word} (h : fetch s = some w) (ha : s.pc.extractLsb' 0 2 = 0b00#2) :
    fetchAndExecute s = execWord w s := by simp [fetchAndExecute, h, ha]

/-- At a pc that is not word aligned the word executed is a free value (log 18). -/
theorem fetchAndExecute_misaligned {s : State} {w : Word} (h : fetch s = some w) (ha : s.pc.extractLsb' 0 2 ≠ 0b00#2) :
    fetchAndExecute s = execWord (Config.drawWord s.draws) { s with draws := s.draws + 1 } := by simp [fetchAndExecute, h, ha]

theorem execWord_decoded {w : Word} {i : Instr} {s : State} (h : decode w = .ok i) : execWord w s = settle (exec i s) := by
  simp [execWord, h]

/-- The branch to itself (R161). -/
theorem branchTarget_self (pc : Word) : branchTarget pc 0xFFFFFE = pc := by
  unfold branchTarget
  rw [show ((0xFFFFFE : BitVec 24).signExtend 32 <<< 2 : Word) = -8 by decide]
  rw [BitVec.add_assoc]; simp

/-- A finished run goes on executing its branch and stays finished (D24: a fixed point of the step but for the inputs consumed). -/
theorem finished_step {s : State} (h : s.finished = true) :
    step s = .next { s.sampled with userBankWindow := false } ∧ State.finished { s.sampled with userBankWindow := false } = true := by
  simp only [State.finished, State.quiet, Bool.and_eq_true, Bool.or_eq_true, List.all_eq_true, Bool.not_eq_true', beq_iff_eq] at h
  obtain ⟨⟨⟨hT, ha⟩, hf⟩, ⟨hF, hI⟩, hR⟩ := h
  have hs : s.sample.reset = false ∧ (psrF s.cpsr = true ∨ s.sample.fiq = false) ∧ (psrI s.cpsr = true ∨ s.sample.irq = false) := by
    unfold State.sample linesLow
    cases hl : s.lines with
    | nil => simp
    | cons l ls =>
      rw [hl] at hF hI hR
      exact ⟨hR l (.head _), hF.imp_right (fun h => h l (.head _)), hI.imp_right (fun h => h l (.head _))⟩
  obtain ⟨hr, hfq, hiq⟩ := hs
  have hfetch : fetch s.sampled = some 0xEAFFFFFE := hf
  have hb : exec (.b .al 0xFFFFFE) s.sampled = .next { s.sampled with userBankWindow := false } := by
    have hready : Ready (.b .al 0xFFFFFE) s.sampled := by
      refine ⟨rfl, rfl, rfl, ?_⟩
      simp [accessStop, named]
    rw [exec, execB, guarded_ready hready]
    simp only [branchTarget_self]
  refine ⟨?_, ?_⟩
  · have hd : decode 0xEAFFFFFE = .ok (.b .al 0xFFFFFE) := rfl
    have h1 : (s.sample.fiq && !psrF s.sampled.cpsr) = false := by
      rcases hfq with h | h <;> simp [State.sampled, h]
    have h2 : (s.sample.irq && !psrI s.sampled.cpsr) = false := by
      rcases hiq with h | h <;> simp [State.sampled, h]
    have h3 : psrT s.sampled.cpsr = false := hT
    rw [step, cycle, interrupted, hr, h1, h2, h3]
    simp only [Bool.false_eq_true, if_false]
    rw [fetchAndExecute_aligned hfetch ha, execWord_decoded hd, hb]
    exact congrArg Host.Outcome.next (State.aligned_eq (.inr ha))
  · simp only [State.finished, State.quiet, State.sampled, Bool.and_eq_true, Bool.or_eq_true, List.all_eq_true, Bool.not_eq_true',
      beq_iff_eq]
    refine ⟨⟨⟨hT, ha⟩, hf⟩, ⟨hF.imp_right fun h l hl => h l (List.mem_of_mem_tail hl),
      hI.imp_right fun h l hl => h l (List.mem_of_mem_tail hl)⟩, fun l hl => hR l (List.mem_of_mem_tail hl)⟩

end Sys2Proof.Machine
end

