-- ==== Sys2Proof/Laws/Encoding.lean ====
section
/-! SUPPORT. Words as eight nibbles: taking a packed word apart, putting a word together, masking nibble by nibble, and the fields
that are pieced together from nibbles. -/

namespace Sys2Proof

/-- A word is determined by its bits, and a packed word's bits are its nibbles' bits. -/
theorem nibble_pack_7 (n7 n6 n5 n4 n3 n2 n1 n0 : BitVec 4) : nibble (pack n7 n6 n5 n4 n3 n2 n1 n0) 7 = n7 := by
  apply BitVec.eq_of_getLsbD_eq; intro i hi
  simp only [pack, nibble, BitVec.getLsbD_append, BitVec.getLsbD_extractLsb']; interval_cases i <;> simp

theorem nibble_pack_6 (n7 n6 n5 n4 n3 n2 n1 n0 : BitVec 4) : nibble (pack n7 n6 n5 n4 n3 n2 n1 n0) 6 = n6 := by
  apply BitVec.eq_of_getLsbD_eq; intro i hi
  simp only [pack, nibble, BitVec.getLsbD_append, BitVec.getLsbD_extractLsb']; interval_cases i <;> simp

theorem nibble_pack_5 (n7 n6 n5 n4 n3 n2 n1 n0 : BitVec 4) : nibble (pack n7 n6 n5 n4 n3 n2 n1 n0) 5 = n5 := by
  apply BitVec.eq_of_getLsbD_eq; intro i hi
  simp only [pack, nibble, BitVec.getLsbD_append, BitVec.getLsbD_extractLsb']; interval_cases i <;> simp

theorem nibble_pack_4 (n7 n6 n5 n4 n3 n2 n1 n0 : BitVec 4) : nibble (pack n7 n6 n5 n4 n3 n2 n1 n0) 4 = n4 := by
  apply BitVec.eq_of_getLsbD_eq; intro i hi
  simp only [pack, nibble, BitVec.getLsbD_append, BitVec.getLsbD_extractLsb']; interval_cases i <;> simp

theorem nibble_pack_3 (n7 n6 n5 n4 n3 n2 n1 n0 : BitVec 4) : nibble (pack n7 n6 n5 n4 n3 n2 n1 n0) 3 = n3 := by
  apply BitVec.eq_of_getLsbD_eq; intro i hi
  simp only [pack, nibble, BitVec.getLsbD_append, BitVec.getLsbD_extractLsb']; interval_cases i <;> simp

theorem nibble_pack_2 (n7 n6 n5 n4 n3 n2 n1 n0 : BitVec 4) : nibble (pack n7 n6 n5 n4 n3 n2 n1 n0) 2 = n2 := by
  apply BitVec.eq_of_getLsbD_eq; intro i hi
  simp only [pack, nibble, BitVec.getLsbD_append, BitVec.getLsbD_extractLsb']; interval_cases i <;> simp

theorem nibble_pack_1 (n7 n6 n5 n4 n3 n2 n1 n0 : BitVec 4) : nibble (pack n7 n6 n5 n4 n3 n2 n1 n0) 1 = n1 := by
  apply BitVec.eq_of_getLsbD_eq; intro i hi
  simp only [pack, nibble, BitVec.getLsbD_append, BitVec.getLsbD_extractLsb']; interval_cases i <;> simp

theorem nibble_pack_0 (n7 n6 n5 n4 n3 n2 n1 n0 : BitVec 4) : nibble (pack n7 n6 n5 n4 n3 n2 n1 n0) 0 = n0 := by
  apply BitVec.eq_of_getLsbD_eq; intro i hi
  simp only [pack, nibble, BitVec.getLsbD_append, BitVec.getLsbD_extractLsb']; interval_cases i <;> simp

/-- Decoding a packed word is decoding its nibbles. -/
theorem decode_pack (n7 n6 n5 n4 n3 n2 n1 n0 : BitVec 4) :
    decode (pack n7 n6 n5 n4 n3 n2 n1 n0) = decodeNibbles n7 n6 n5 n4 n3 n2 n1 n0 := by
  simp only [decode, nibble_pack_7, nibble_pack_6, nibble_pack_5, nibble_pack_4, nibble_pack_3, nibble_pack_2, nibble_pack_1,
    nibble_pack_0]

/-- A word is the pack of its nibbles. -/
theorem pack_nibble (w : Word) :
    pack (nibble w 7) (nibble w 6) (nibble w 5) (nibble w 4) (nibble w 3) (nibble w 2) (nibble w 1) (nibble w 0) = w := by
  apply BitVec.eq_of_getLsbD_eq; intro i hi
  simp only [pack, nibble, BitVec.getLsbD_append, BitVec.getLsbD_extractLsb']; interval_cases i <;> simp

/-- Masking goes nibble by nibble. -/
theorem pack_and (a7 a6 a5 a4 a3 a2 a1 a0 b7 b6 b5 b4 b3 b2 b1 b0 : BitVec 4) :
    pack a7 a6 a5 a4 a3 a2 a1 a0 &&& pack b7 b6 b5 b4 b3 b2 b1 b0 =
      pack (a7 &&& b7) (a6 &&& b6) (a5 &&& b5) (a4 &&& b4) (a3 &&& b3) (a2 &&& b2) (a1 &&& b1) (a0 &&& b0) := by
  apply BitVec.eq_of_getLsbD_eq; intro i hi
  simp only [pack, BitVec.getLsbD_append, BitVec.getLsbD_and]
  repeat' split
  all_goals rfl

@[simp] theorem Cond.ofBits_bits (c : Cond) : Cond.ofBits c.bits = some c := by cases c <;> rfl

/-- Every condition field but 1111 is the field of its condition. -/
theorem Cond.bits_ofBits (n : BitVec 4) (c : Cond) (h : Cond.ofBits n = some c) : c.bits = n := by
  revert h; revert c; revert n; decide

@[simp] theorem ShiftKind.ofBits_bits (k : ShiftKind) : ShiftKind.ofBits k.bits = k := by cases k <;> rfl

@[simp] theorem ShiftKind.bits_ofBits (n : BitVec 2) : (ShiftKind.ofBits n).bits = n := by revert n; decide

/-- An 8-bit field is its two nibbles. -/
theorem byte_nibbles (v : BitVec 8) : v.extractLsb' 4 4 ++ v.extractLsb' 0 4 = v := by
  apply BitVec.eq_of_getLsbD_eq; intro i hi
  simp only [BitVec.getLsbD_append, BitVec.getLsbD_extractLsb']; interval_cases i <;> simp

/-- A 12-bit field is its three nibbles. -/
theorem nibbles_12 (v : BitVec 12) : v.extractLsb' 8 4 ++ v.extractLsb' 4 4 ++ v.extractLsb' 0 4 = v := by
  apply BitVec.eq_of_getLsbD_eq; intro i hi
  simp only [BitVec.getLsbD_append, BitVec.getLsbD_extractLsb']; interval_cases i <;> simp

/-- A 16-bit field is its four nibbles. -/
theorem nibbles_16 (v : BitVec 16) :
    v.extractLsb' 12 4 ++ v.extractLsb' 8 4 ++ v.extractLsb' 4 4 ++ v.extractLsb' 0 4 = v := by
  apply BitVec.eq_of_getLsbD_eq; intro i hi
  simp only [BitVec.getLsbD_append, BitVec.getLsbD_extractLsb']; interval_cases i <;> simp

/-- A 24-bit field is its six nibbles. -/
theorem nibbles_24 (v : BitVec 24) :
    v.extractLsb' 20 4 ++ v.extractLsb' 16 4 ++ v.extractLsb' 12 4 ++ v.extractLsb' 8 4 ++ v.extractLsb' 4 4 ++
      v.extractLsb' 0 4 = v := by
  apply BitVec.eq_of_getLsbD_eq; intro i hi
  simp only [BitVec.getLsbD_append, BitVec.getLsbD_extractLsb']; interval_cases i <;> simp

/-- A shift amount is its upper four bits and its lowest bit. -/
theorem amount_split (v : BitVec 5) : v.extractLsb' 1 4 ++ v.extractLsb' 0 1 = v := by revert v; decide

end Sys2Proof
end

