-- ==== Sys2Proof/Laws/PerInstr.lean ====
section
/-! SUPPORT. For every instruction: its encoding lies in the row of spec/opcode_table.json it stands for, under the row's mask and match
(spec/30_encoding.md R131, R132). -/

namespace Sys2Proof.Laws

/-- Mask and match of the row an instruction stands for. -/
def opcodeRow : Instr → Word × Word
  | .andImm _ _ _ _ _ _ => (0x0FE00000, 0x02000000)
  | .andShiftImm _ _ _ _ _ _ _ => (0x0FE00010, 0x00000000)
  | .andShiftReg _ _ _ _ _ _ _ => (0x0FE00090, 0x00000010)
  | .eorImm _ _ _ _ _ _ => (0x0FE00000, 0x02200000)
  | .eorShiftImm _ _ _ _ _ _ _ => (0x0FE00010, 0x00200000)
  | .eorShiftReg _ _ _ _ _ _ _ => (0x0FE00090, 0x00200010)
  | .subImm _ _ _ _ _ _ => (0x0FE00000, 0x02400000)
  | .subShiftImm _ _ _ _ _ _ _ => (0x0FE00010, 0x00400000)
  | .subShiftReg _ _ _ _ _ _ _ => (0x0FE00090, 0x00400010)
  | .rsbImm _ _ _ _ _ _ => (0x0FE00000, 0x02600000)
  | .rsbShiftImm _ _ _ _ _ _ _ => (0x0FE00010, 0x00600000)
  | .rsbShiftReg _ _ _ _ _ _ _ => (0x0FE00090, 0x00600010)
  | .addImm _ _ _ _ _ _ => (0x0FE00000, 0x02800000)
  | .addShiftImm _ _ _ _ _ _ _ => (0x0FE00010, 0x00800000)
  | .addShiftReg _ _ _ _ _ _ _ => (0x0FE00090, 0x00800010)
  | .adcImm _ _ _ _ _ _ => (0x0FE00000, 0x02A00000)
  | .adcShiftImm _ _ _ _ _ _ _ => (0x0FE00010, 0x00A00000)
  | .adcShiftReg _ _ _ _ _ _ _ => (0x0FE00090, 0x00A00010)
  | .sbcImm _ _ _ _ _ _ => (0x0FE00000, 0x02C00000)
  | .sbcShiftImm _ _ _ _ _ _ _ => (0x0FE00010, 0x00C00000)
  | .sbcShiftReg _ _ _ _ _ _ _ => (0x0FE00090, 0x00C00010)
  | .rscImm _ _ _ _ _ _ => (0x0FE00000, 0x02E00000)
  | .rscShiftImm _ _ _ _ _ _ _ => (0x0FE00010, 0x00E00000)
  | .rscShiftReg _ _ _ _ _ _ _ => (0x0FE00090, 0x00E00010)
  | .tstImm _ _ _ _ _ => (0x0FF00000, 0x03100000)
  | .tstShiftImm _ _ _ _ _ _ => (0x0FF00010, 0x01100000)
  | .tstShiftReg _ _ _ _ _ _ => (0x0FF00090, 0x01100010)
  | .teqImm _ _ _ _ _ => (0x0FF00000, 0x03300000)
  | .teqShiftImm _ _ _ _ _ _ => (0x0FF00010, 0x01300000)
  | .teqShiftReg _ _ _ _ _ _ => (0x0FF00090, 0x01300010)
  | .cmpImm _ _ _ _ _ => (0x0FF00000, 0x03500000)
  | .cmpShiftImm _ _ _ _ _ _ => (0x0FF00010, 0x01500000)
  | .cmpShiftReg _ _ _ _ _ _ => (0x0FF00090, 0x01500010)
  | .cmnImm _ _ _ _ _ => (0x0FF00000, 0x03700000)
  | .cmnShiftImm _ _ _ _ _ _ => (0x0FF00010, 0x01700000)
  | .cmnShiftReg _ _ _ _ _ _ => (0x0FF00090, 0x01700010)
  | .orrImm _ _ _ _ _ _ => (0x0FE00000, 0x03800000)
  | .orrShiftImm _ _ _ _ _ _ _ => (0x0FE00010, 0x01800000)
  | .orrShiftReg _ _ _ _ _ _ _ => (0x0FE00090, 0x01800010)
  | .movImm _ _ _ _ _ _ => (0x0FE00000, 0x03A00000)
  | .movShiftImm _ _ _ _ _ _ _ => (0x0FE00010, 0x01A00000)
  | .movShiftReg _ _ _ _ _ _ _ => (0x0FE00090, 0x01A00010)
  | .bicImm _ _ _ _ _ _ => (0x0FE00000, 0x03C00000)
  | .bicShiftImm _ _ _ _ _ _ _ => (0x0FE00010, 0x01C00000)
  | .bicShiftReg _ _ _ _ _ _ _ => (0x0FE00090, 0x01C00010)
  | .mvnImm _ _ _ _ _ _ => (0x0FE00000, 0x03E00000)
  | .mvnShiftImm _ _ _ _ _ _ _ => (0x0FE00010, 0x01E00000)
  | .mvnShiftReg _ _ _ _ _ _ _ => (0x0FE00090, 0x01E00010)
  | .mul _ _ _ _ _ _ => (0x0FE000F0, 0x00000090)
  | .mla _ _ _ _ _ _ => (0x0FE000F0, 0x00200090)
  | .umull _ _ _ _ _ _ => (0x0FE000F0, 0x00800090)
  | .umlal _ _ _ _ _ _ => (0x0FE000F0, 0x00A00090)
  | .smull _ _ _ _ _ _ => (0x0FE000F0, 0x00C00090)
  | .smlal _ _ _ _ _ _ => (0x0FE000F0, 0x00E00090)
  | .clz _ _ _ _ _ => (0x0FF000F0, 0x01600010)
  | .swp _ _ _ _ _ => (0x0FF000F0, 0x01000090)
  | .swpb _ _ _ _ _ => (0x0FF000F0, 0x01400090)
  | .mrs _ _ _ _ _ _ => (0x0FB000F0, 0x01000000)
  | .msrReg _ _ _ _ _ _ => (0x0FB000F0, 0x01200000)
  | .msrImm _ _ _ _ _ _ => (0x0FB00000, 0x03200000)
  | .bx _ _ _ => (0x0FF000F0, 0x01200010)
  | .blxReg _ _ _ => (0x0FF000F0, 0x01200030)
  | .bkpt _ _ _ => (0x0FF000F0, 0x01200070)
  | .strhImm _ _ _ _ _ _ _ _ => (0x0E5000F0, 0x004000B0)
  | .strhReg _ _ _ _ _ _ _ _ => (0x0E5000F0, 0x000000B0)
  | .ldrhImm _ _ _ _ _ _ _ _ => (0x0E5000F0, 0x005000B0)
  | .ldrhReg _ _ _ _ _ _ _ _ => (0x0E5000F0, 0x001000B0)
  | .ldrsbImm _ _ _ _ _ _ _ _ => (0x0E5000F0, 0x005000D0)
  | .ldrsbReg _ _ _ _ _ _ _ _ => (0x0E5000F0, 0x001000D0)
  | .ldrshImm _ _ _ _ _ _ _ _ => (0x0E5000F0, 0x005000F0)
  | .ldrshReg _ _ _ _ _ _ _ _ => (0x0E5000F0, 0x001000F0)
  | .ldrImm _ _ _ _ _ _ => (0x0F500000, 0x05100000)
  | .ldrImmPost _ _ _ _ _ => (0x0F700000, 0x04100000)
  | .ldrtImm _ _ _ _ _ => (0x0F700000, 0x04300000)
  | .ldrReg _ _ _ _ _ _ _ _ => (0x0F500010, 0x07100000)
  | .ldrRegPost _ _ _ _ _ _ _ => (0x0F700010, 0x06100000)
  | .ldrtReg _ _ _ _ _ _ _ => (0x0F700010, 0x06300000)
  | .strImm _ _ _ _ _ _ => (0x0F500000, 0x05000000)
  | .strImmPost _ _ _ _ _ => (0x0F700000, 0x04000000)
  | .strtImm _ _ _ _ _ => (0x0F700000, 0x04200000)
  | .strReg _ _ _ _ _ _ _ _ => (0x0F500010, 0x07000000)
  | .strRegPost _ _ _ _ _ _ _ => (0x0F700010, 0x06000000)
  | .strtReg _ _ _ _ _ _ _ => (0x0F700010, 0x06200000)
  | .ldrbImm _ _ _ _ _ _ => (0x0F500000, 0x05500000)
  | .ldrbImmPost _ _ _ _ _ => (0x0F700000, 0x04500000)
  | .ldrbtImm _ _ _ _ _ => (0x0F700000, 0x04700000)
  | .ldrbReg _ _ _ _ _ _ _ _ => (0x0F500010, 0x07500000)
  | .ldrbRegPost _ _ _ _ _ _ _ => (0x0F700010, 0x06500000)
  | .ldrbtReg _ _ _ _ _ _ _ => (0x0F700010, 0x06700000)
  | .strbImm _ _ _ _ _ _ => (0x0F500000, 0x05400000)
  | .strbImmPost _ _ _ _ _ => (0x0F700000, 0x04400000)
  | .strbtImm _ _ _ _ _ => (0x0F700000, 0x04600000)
  | .strbReg _ _ _ _ _ _ _ _ => (0x0F500010, 0x07400000)
  | .strbRegPost _ _ _ _ _ _ _ => (0x0F700010, 0x06400000)
  | .strbtReg _ _ _ _ _ _ _ => (0x0F700010, 0x06600000)
  | .ldm _ _ _ _ _ _ => (0x0E500000, 0x08100000)
  | .ldmUser _ _ _ _ _ _ => (0x0E508000, 0x08500000)
  | .ldmReturn _ _ _ _ _ _ => (0x0E508000, 0x08508000)
  | .stm _ _ _ _ _ _ => (0x0E500000, 0x08000000)
  | .stmUser _ _ _ _ _ _ => (0x0E500000, 0x08400000)
  | .b _ _ => (0x0F000000, 0x0A000000)
  | .bl _ _ => (0x0F000000, 0x0B000000)
  | .blxImm _ _ => (0xFE000000, 0xFA000000)
  | .ldcOffset _ _ _ _ _ _ _ _ => (0x0F100000, 0x0D100000)
  | .ldcPostUp _ _ _ _ _ _ _ => (0x0F900000, 0x0C900000)
  | .ldcPostDown _ _ _ _ _ _ => (0x0FB00000, 0x0C300000)
  | .stcOffset _ _ _ _ _ _ _ _ => (0x0F100000, 0x0D000000)
  | .stcPostUp _ _ _ _ _ _ _ => (0x0F900000, 0x0C800000)
  | .stcPostDown _ _ _ _ _ _ => (0x0FB00000, 0x0C200000)
  | .cdp _ _ _ _ _ _ _ => (0x0F000010, 0x0E000000)
  | .mcr _ _ _ _ _ _ _ => (0x0F100010, 0x0E000010)
  | .mrc _ _ _ _ _ _ _ => (0x0F100010, 0x0E100010)
  | .swi _ _ => (0x0F000000, 0x0F000000)

/-- The encoding has the fixed bits of its row. -/
def OpcodeRow.Statement (i : Instr) : Prop := encode i &&& (opcodeRow i).1 = (opcodeRow i).2

/-- A masked packed word, by its nibbles. -/
theorem pack_masked {w m v : Word} {a7 a6 a5 a4 a3 a2 a1 a0 b7 b6 b5 b4 b3 b2 b1 b0 c7 c6 c5 c4 c3 c2 c1 c0 : BitVec 4}
    (hw : w = pack a7 a6 a5 a4 a3 a2 a1 a0) (hm : m = pack b7 b6 b5 b4 b3 b2 b1 b0) (hv : v = pack c7 c6 c5 c4 c3 c2 c1 c0)
    (h7 : a7 &&& b7 = c7) (h6 : a6 &&& b6 = c6) (h5 : a5 &&& b5 = c5) (h4 : a4 &&& b4 = c4) (h3 : a3 &&& b3 = c3)
    (h2 : a2 &&& b2 = c2) (h1 : a1 &&& b1 = c1) (h0 : a0 &&& b0 = c0) : w &&& m = v := by
  subst hw hm hv h7 h6 h5 h4 h3 h2 h1 h0; exact pack_and ..

/-- The lowest nibble bits of a shifted register operand: bit 4 (R106). -/
theorem shift_nibble_bit4 (x : BitVec 1) (k : BitVec 2) (y : BitVec 1) : (x ++ k ++ y) &&& 0x1#4 = 0#3 ++ y := by
  revert x k y; decide

/-- Bits 7 and 4 (R106). -/
theorem shift_nibble_bits74 (x : BitVec 1) (k : BitVec 2) (y : BitVec 1) : (x ++ k ++ y) &&& 0x9#4 = x ++ 0#2 ++ y := by
  revert x k y; decide

/-- The lowest bit of a nibble made of a 3-bit field and a bit (R125, R127). -/
theorem low_bit (x : BitVec 3) (y : BitVec 1) : (x ++ y) &&& 0x1#4 = 0#3 ++ y := by revert x y; decide

/-- Bit 15 of the register list (R118). -/
theorem list_nibble_bit15 (x : BitVec 1) (list : BitVec 15) :
    (x ++ list).extractLsb' 12 4 &&& 0x8#4 = x ++ 0#3 := by
  apply BitVec.eq_of_getLsbD_eq; intro i hi
  simp only [BitVec.getLsbD_append, BitVec.getLsbD_extractLsb', BitVec.getLsbD_and]; interval_cases i <;> simp

theorem OpcodeRow.andImm (c : Cond) (sf : Bool) (rn : RegNo) (rd : RegNo) (rot : BitVec 4) (imm : BitVec 8) :
    OpcodeRow.Statement (.andImm c sf rn rd rot imm) :=
  pack_masked rfl (rfl : _ = pack 0x0 0xF 0xE 0x0 0x0 0x0 0x0 0x0)
    (rfl : _ = pack 0x0 0x2 0x0 0x0 0x0 0x0 0x0 0x0) BitVec.and_zero rfl (by cases sf <;> rfl) BitVec.and_zero
    BitVec.and_zero BitVec.and_zero BitVec.and_zero BitVec.and_zero

theorem OpcodeRow.andShiftImm (c : Cond) (sf : Bool) (rn : RegNo) (rd : RegNo) (amount : BitVec 5) (kind : ShiftKind) (rm : RegNo) :
    OpcodeRow.Statement (.andShiftImm c sf rn rd amount kind rm) :=
  pack_masked rfl (rfl : _ = pack 0x0 0xF 0xE 0x0 0x0 0x0 0x1 0x0)
    (rfl : _ = pack 0x0 0x0 0x0 0x0 0x0 0x0 0x0 0x0) BitVec.and_zero rfl (by cases sf <;> rfl) BitVec.and_zero
    BitVec.and_zero BitVec.and_zero (shift_nibble_bit4 ..) BitVec.and_zero

theorem OpcodeRow.andShiftReg (c : Cond) (sf : Bool) (rn : RegNo) (rd : RegNo) (rs : RegNo) (kind : ShiftKind) (rm : RegNo) :
    OpcodeRow.Statement (.andShiftReg c sf rn rd rs kind rm) :=
  pack_masked rfl (rfl : _ = pack 0x0 0xF 0xE 0x0 0x0 0x0 0x9 0x0)
    (rfl : _ = pack 0x0 0x0 0x0 0x0 0x0 0x0 0x1 0x0) BitVec.and_zero rfl (by cases sf <;> rfl) BitVec.and_zero
    BitVec.and_zero BitVec.and_zero (shift_nibble_bits74 ..) BitVec.and_zero

theorem OpcodeRow.eorImm (c : Cond) (sf : Bool) (rn : RegNo) (rd : RegNo) (rot : BitVec 4) (imm : BitVec 8) :
    OpcodeRow.Statement (.eorImm c sf rn rd rot imm) :=
  pack_masked rfl (rfl : _ = pack 0x0 0xF 0xE 0x0 0x0 0x0 0x0 0x0)
    (rfl : _ = pack 0x0 0x2 0x2 0x0 0x0 0x0 0x0 0x0) BitVec.and_zero rfl (by cases sf <;> rfl) BitVec.and_zero
    BitVec.and_zero BitVec.and_zero BitVec.and_zero BitVec.and_zero

theorem OpcodeRow.eorShiftImm (c : Cond) (sf : Bool) (rn : RegNo) (rd : RegNo) (amount : BitVec 5) (kind : ShiftKind) (rm : RegNo) :
    OpcodeRow.Statement (.eorShiftImm c sf rn rd amount kind rm) :=
  pack_masked rfl (rfl : _ = pack 0x0 0xF 0xE 0x0 0x0 0x0 0x1 0x0)
    (rfl : _ = pack 0x0 0x0 0x2 0x0 0x0 0x0 0x0 0x0) BitVec.and_zero rfl (by cases sf <;> rfl) BitVec.and_zero
    BitVec.and_zero BitVec.and_zero (shift_nibble_bit4 ..) BitVec.and_zero

theorem OpcodeRow.eorShiftReg (c : Cond) (sf : Bool) (rn : RegNo) (rd : RegNo) (rs : RegNo) (kind : ShiftKind) (rm : RegNo) :
    OpcodeRow.Statement (.eorShiftReg c sf rn rd rs kind rm) :=
  pack_masked rfl (rfl : _ = pack 0x0 0xF 0xE 0x0 0x0 0x0 0x9 0x0)
    (rfl : _ = pack 0x0 0x0 0x2 0x0 0x0 0x0 0x1 0x0) BitVec.and_zero rfl (by cases sf <;> rfl) BitVec.and_zero
    BitVec.and_zero BitVec.and_zero (shift_nibble_bits74 ..) BitVec.and_zero

theorem OpcodeRow.subImm (c : Cond) (sf : Bool) (rn : RegNo) (rd : RegNo) (rot : BitVec 4) (imm : BitVec 8) :
    OpcodeRow.Statement (.subImm c sf rn rd rot imm) :=
  pack_masked rfl (rfl : _ = pack 0x0 0xF 0xE 0x0 0x0 0x0 0x0 0x0)
    (rfl : _ = pack 0x0 0x2 0x4 0x0 0x0 0x0 0x0 0x0) BitVec.and_zero rfl (by cases sf <;> rfl) BitVec.and_zero
    BitVec.and_zero BitVec.and_zero BitVec.and_zero BitVec.and_zero

theorem OpcodeRow.subShiftImm (c : Cond) (sf : Bool) (rn : RegNo) (rd : RegNo) (amount : BitVec 5) (kind : ShiftKind) (rm : RegNo) :
    OpcodeRow.Statement (.subShiftImm c sf rn rd amount kind rm) :=
  pack_masked rfl (rfl : _ = pack 0x0 0xF 0xE 0x0 0x0 0x0 0x1 0x0)
    (rfl : _ = pack 0x0 0x0 0x4 0x0 0x0 0x0 0x0 0x0) BitVec.and_zero rfl (by cases sf <;> rfl) BitVec.and_zero
    BitVec.and_zero BitVec.and_zero (shift_nibble_bit4 ..) BitVec.and_zero

theorem OpcodeRow.subShiftReg (c : Cond) (sf : Bool) (rn : RegNo) (rd : RegNo) (rs : RegNo) (kind : ShiftKind) (rm : RegNo) :
    OpcodeRow.Statement (.subShiftReg c sf rn rd rs kind rm) :=
  pack_masked rfl (rfl : _ = pack 0x0 0xF 0xE 0x0 0x0 0x0 0x9 0x0)
    (rfl : _ = pack 0x0 0x0 0x4 0x0 0x0 0x0 0x1 0x0) BitVec.and_zero rfl (by cases sf <;> rfl) BitVec.and_zero
    BitVec.and_zero BitVec.and_zero (shift_nibble_bits74 ..) BitVec.and_zero

theorem OpcodeRow.rsbImm (c : Cond) (sf : Bool) (rn : RegNo) (rd : RegNo) (rot : BitVec 4) (imm : BitVec 8) :
    OpcodeRow.Statement (.rsbImm c sf rn rd rot imm) :=
  pack_masked rfl (rfl : _ = pack 0x0 0xF 0xE 0x0 0x0 0x0 0x0 0x0)
    (rfl : _ = pack 0x0 0x2 0x6 0x0 0x0 0x0 0x0 0x0) BitVec.and_zero rfl (by cases sf <;> rfl) BitVec.and_zero
    BitVec.and_zero BitVec.and_zero BitVec.and_zero BitVec.and_zero

theorem OpcodeRow.rsbShiftImm (c : Cond) (sf : Bool) (rn : RegNo) (rd : RegNo) (amount : BitVec 5) (kind : ShiftKind) (rm : RegNo) :
    OpcodeRow.Statement (.rsbShiftImm c sf rn rd amount kind rm) :=
  pack_masked rfl (rfl : _ = pack 0x0 0xF 0xE 0x0 0x0 0x0 0x1 0x0)
    (rfl : _ = pack 0x0 0x0 0x6 0x0 0x0 0x0 0x0 0x0) BitVec.and_zero rfl (by cases sf <;> rfl) BitVec.and_zero
    BitVec.and_zero BitVec.and_zero (shift_nibble_bit4 ..) BitVec.and_zero

theorem OpcodeRow.rsbShiftReg (c : Cond) (sf : Bool) (rn : RegNo) (rd : RegNo) (rs : RegNo) (kind : ShiftKind) (rm : RegNo) :
    OpcodeRow.Statement (.rsbShiftReg c sf rn rd rs kind rm) :=
  pack_masked rfl (rfl : _ = pack 0x0 0xF 0xE 0x0 0x0 0x0 0x9 0x0)
    (rfl : _ = pack 0x0 0x0 0x6 0x0 0x0 0x0 0x1 0x0) BitVec.and_zero rfl (by cases sf <;> rfl) BitVec.and_zero
    BitVec.and_zero BitVec.and_zero (shift_nibble_bits74 ..) BitVec.and_zero

theorem OpcodeRow.addImm (c : Cond) (sf : Bool) (rn : RegNo) (rd : RegNo) (rot : BitVec 4) (imm : BitVec 8) :
    OpcodeRow.Statement (.addImm c sf rn rd rot imm) :=
  pack_masked rfl (rfl : _ = pack 0x0 0xF 0xE 0x0 0x0 0x0 0x0 0x0)
    (rfl : _ = pack 0x0 0x2 0x8 0x0 0x0 0x0 0x0 0x0) BitVec.and_zero rfl (by cases sf <;> rfl) BitVec.and_zero
    BitVec.and_zero BitVec.and_zero BitVec.and_zero BitVec.and_zero

theorem OpcodeRow.addShiftImm (c : Cond) (sf : Bool) (rn : RegNo) (rd : RegNo) (amount : BitVec 5) (kind : ShiftKind) (rm : RegNo) :
    OpcodeRow.Statement (.addShiftImm c sf rn rd amount kind rm) :=
  pack_masked rfl (rfl : _ = pack 0x0 0xF 0xE 0x0 0x0 0x0 0x1 0x0)
    (rfl : _ = pack 0x0 0x0 0x8 0x0 0x0 0x0 0x0 0x0) BitVec.and_zero rfl (by cases sf <;> rfl) BitVec.and_zero
    BitVec.and_zero BitVec.and_zero (shift_nibble_bit4 ..) BitVec.and_zero

theorem OpcodeRow.addShiftReg (c : Cond) (sf : Bool) (rn : RegNo) (rd : RegNo) (rs : RegNo) (kind : ShiftKind) (rm : RegNo) :
    OpcodeRow.Statement (.addShiftReg c sf rn rd rs kind rm) :=
  pack_masked rfl (rfl : _ = pack 0x0 0xF 0xE 0x0 0x0 0x0 0x9 0x0)
    (rfl : _ = pack 0x0 0x0 0x8 0x0 0x0 0x0 0x1 0x0) BitVec.and_zero rfl (by cases sf <;> rfl) BitVec.and_zero
    BitVec.and_zero BitVec.and_zero (shift_nibble_bits74 ..) BitVec.and_zero

theorem OpcodeRow.adcImm (c : Cond) (sf : Bool) (rn : RegNo) (rd : RegNo) (rot : BitVec 4) (imm : BitVec 8) :
    OpcodeRow.Statement (.adcImm c sf rn rd rot imm) :=
  pack_masked rfl (rfl : _ = pack 0x0 0xF 0xE 0x0 0x0 0x0 0x0 0x0)
    (rfl : _ = pack 0x0 0x2 0xA 0x0 0x0 0x0 0x0 0x0) BitVec.and_zero rfl (by cases sf <;> rfl) BitVec.and_zero
    BitVec.and_zero BitVec.and_zero BitVec.and_zero BitVec.and_zero

theorem OpcodeRow.adcShiftImm (c : Cond) (sf : Bool) (rn : RegNo) (rd : RegNo) (amount : BitVec 5) (kind : ShiftKind) (rm : RegNo) :
    OpcodeRow.Statement (.adcShiftImm c sf rn rd amount kind rm) :=
  pack_masked rfl (rfl : _ = pack 0x0 0xF 0xE 0x0 0x0 0x0 0x1 0x0)
    (rfl : _ = pack 0x0 0x0 0xA 0x0 0x0 0x0 0x0 0x0) BitVec.and_zero rfl (by cases sf <;> rfl) BitVec.and_zero
    BitVec.and_zero BitVec.and_zero (shift_nibble_bit4 ..) BitVec.and_zero

theorem OpcodeRow.adcShiftReg (c : Cond) (sf : Bool) (rn : RegNo) (rd : RegNo) (rs : RegNo) (kind : ShiftKind) (rm : RegNo) :
    OpcodeRow.Statement (.adcShiftReg c sf rn rd rs kind rm) :=
  pack_masked rfl (rfl : _ = pack 0x0 0xF 0xE 0x0 0x0 0x0 0x9 0x0)
    (rfl : _ = pack 0x0 0x0 0xA 0x0 0x0 0x0 0x1 0x0) BitVec.and_zero rfl (by cases sf <;> rfl) BitVec.and_zero
    BitVec.and_zero BitVec.and_zero (shift_nibble_bits74 ..) BitVec.and_zero

theorem OpcodeRow.sbcImm (c : Cond) (sf : Bool) (rn : RegNo) (rd : RegNo) (rot : BitVec 4) (imm : BitVec 8) :
    OpcodeRow.Statement (.sbcImm c sf rn rd rot imm) :=
  pack_masked rfl (rfl : _ = pack 0x0 0xF 0xE 0x0 0x0 0x0 0x0 0x0)
    (rfl : _ = pack 0x0 0x2 0xC 0x0 0x0 0x0 0x0 0x0) BitVec.and_zero rfl (by cases sf <;> rfl) BitVec.and_zero
    BitVec.and_zero BitVec.and_zero BitVec.and_zero BitVec.and_zero

theorem OpcodeRow.sbcShiftImm (c : Cond) (sf : Bool) (rn : RegNo) (rd : RegNo) (amount : BitVec 5) (kind : ShiftKind) (rm : RegNo) :
    OpcodeRow.Statement (.sbcShiftImm c sf rn rd amount kind rm) :=
  pack_masked rfl (rfl : _ = pack 0x0 0xF 0xE 0x0 0x0 0x0 0x1 0x0)
    (rfl : _ = pack 0x0 0x0 0xC 0x0 0x0 0x0 0x0 0x0) BitVec.and_zero rfl (by cases sf <;> rfl) BitVec.and_zero
    BitVec.and_zero BitVec.and_zero (shift_nibble_bit4 ..) BitVec.and_zero

theorem OpcodeRow.sbcShiftReg (c : Cond) (sf : Bool) (rn : RegNo) (rd : RegNo) (rs : RegNo) (kind : ShiftKind) (rm : RegNo) :
    OpcodeRow.Statement (.sbcShiftReg c sf rn rd rs kind rm) :=
  pack_masked rfl (rfl : _ = pack 0x0 0xF 0xE 0x0 0x0 0x0 0x9 0x0)
    (rfl : _ = pack 0x0 0x0 0xC 0x0 0x0 0x0 0x1 0x0) BitVec.and_zero rfl (by cases sf <;> rfl) BitVec.and_zero
    BitVec.and_zero BitVec.and_zero (shift_nibble_bits74 ..) BitVec.and_zero

theorem OpcodeRow.rscImm (c : Cond) (sf : Bool) (rn : RegNo) (rd : RegNo) (rot : BitVec 4) (imm : BitVec 8) :
    OpcodeRow.Statement (.rscImm c sf rn rd rot imm) :=
  pack_masked rfl (rfl : _ = pack 0x0 0xF 0xE 0x0 0x0 0x0 0x0 0x0)
    (rfl : _ = pack 0x0 0x2 0xE 0x0 0x0 0x0 0x0 0x0) BitVec.and_zero rfl (by cases sf <;> rfl) BitVec.and_zero
    BitVec.and_zero BitVec.and_zero BitVec.and_zero BitVec.and_zero

theorem OpcodeRow.rscShiftImm (c : Cond) (sf : Bool) (rn : RegNo) (rd : RegNo) (amount : BitVec 5) (kind : ShiftKind) (rm : RegNo) :
    OpcodeRow.Statement (.rscShiftImm c sf rn rd amount kind rm) :=
  pack_masked rfl (rfl : _ = pack 0x0 0xF 0xE 0x0 0x0 0x0 0x1 0x0)
    (rfl : _ = pack 0x0 0x0 0xE 0x0 0x0 0x0 0x0 0x0) BitVec.and_zero rfl (by cases sf <;> rfl) BitVec.and_zero
    BitVec.and_zero BitVec.and_zero (shift_nibble_bit4 ..) BitVec.and_zero

theorem OpcodeRow.rscShiftReg (c : Cond) (sf : Bool) (rn : RegNo) (rd : RegNo) (rs : RegNo) (kind : ShiftKind) (rm : RegNo) :
    OpcodeRow.Statement (.rscShiftReg c sf rn rd rs kind rm) :=
  pack_masked rfl (rfl : _ = pack 0x0 0xF 0xE 0x0 0x0 0x0 0x9 0x0)
    (rfl : _ = pack 0x0 0x0 0xE 0x0 0x0 0x0 0x1 0x0) BitVec.and_zero rfl (by cases sf <;> rfl) BitVec.and_zero
    BitVec.and_zero BitVec.and_zero (shift_nibble_bits74 ..) BitVec.and_zero

theorem OpcodeRow.tstImm (c : Cond) (rn : RegNo) (sbz : BitVec 4) (rot : BitVec 4) (imm : BitVec 8) :
    OpcodeRow.Statement (.tstImm c rn sbz rot imm) :=
  pack_masked rfl (rfl : _ = pack 0x0 0xF 0xF 0x0 0x0 0x0 0x0 0x0)
    (rfl : _ = pack 0x0 0x3 0x1 0x0 0x0 0x0 0x0 0x0) BitVec.and_zero rfl rfl BitVec.and_zero
    BitVec.and_zero BitVec.and_zero BitVec.and_zero BitVec.and_zero

theorem OpcodeRow.tstShiftImm (c : Cond) (rn : RegNo) (sbz : BitVec 4) (amount : BitVec 5) (kind : ShiftKind) (rm : RegNo) :
    OpcodeRow.Statement (.tstShiftImm c rn sbz amount kind rm) :=
  pack_masked rfl (rfl : _ = pack 0x0 0xF 0xF 0x0 0x0 0x0 0x1 0x0)
    (rfl : _ = pack 0x0 0x1 0x1 0x0 0x0 0x0 0x0 0x0) BitVec.and_zero rfl rfl BitVec.and_zero
    BitVec.and_zero BitVec.and_zero (shift_nibble_bit4 ..) BitVec.and_zero

theorem OpcodeRow.tstShiftReg (c : Cond) (rn : RegNo) (sbz : BitVec 4) (rs : RegNo) (kind : ShiftKind) (rm : RegNo) :
    OpcodeRow.Statement (.tstShiftReg c rn sbz rs kind rm) :=
  pack_masked rfl (rfl : _ = pack 0x0 0xF 0xF 0x0 0x0 0x0 0x9 0x0)
    (rfl : _ = pack 0x0 0x1 0x1 0x0 0x0 0x0 0x1 0x0) BitVec.and_zero rfl rfl BitVec.and_zero
    BitVec.and_zero BitVec.and_zero (shift_nibble_bits74 ..) BitVec.and_zero

theorem OpcodeRow.teqImm (c : Cond) (rn : RegNo) (sbz : BitVec 4) (rot : BitVec 4) (imm : BitVec 8) :
    OpcodeRow.Statement (.teqImm c rn sbz rot imm) :=
  pack_masked rfl (rfl : _ = pack 0x0 0xF 0xF 0x0 0x0 0x0 0x0 0x0)
    (rfl : _ = pack 0x0 0x3 0x3 0x0 0x0 0x0 0x0 0x0) BitVec.and_zero rfl rfl BitVec.and_zero
    BitVec.and_zero BitVec.and_zero BitVec.and_zero BitVec.and_zero

theorem OpcodeRow.teqShiftImm (c : Cond) (rn : RegNo) (sbz : BitVec 4) (amount : BitVec 5) (kind : ShiftKind) (rm : RegNo) :
    OpcodeRow.Statement (.teqShiftImm c rn sbz amount kind rm) :=
  pack_masked rfl (rfl : _ = pack 0x0 0xF 0xF 0x0 0x0 0x0 0x1 0x0)
    (rfl : _ = pack 0x0 0x1 0x3 0x0 0x0 0x0 0x0 0x0) BitVec.and_zero rfl rfl BitVec.and_zero
    BitVec.and_zero BitVec.and_zero (shift_nibble_bit4 ..) BitVec.and_zero

theorem OpcodeRow.teqShiftReg (c : Cond) (rn : RegNo) (sbz : BitVec 4) (rs : RegNo) (kind : ShiftKind) (rm : RegNo) :
    OpcodeRow.Statement (.teqShiftReg c rn sbz rs kind rm) :=
  pack_masked rfl (rfl : _ = pack 0x0 0xF 0xF 0x0 0x0 0x0 0x9 0x0)
    (rfl : _ = pack 0x0 0x1 0x3 0x0 0x0 0x0 0x1 0x0) BitVec.and_zero rfl rfl BitVec.and_zero
    BitVec.and_zero BitVec.and_zero (shift_nibble_bits74 ..) BitVec.and_zero

theorem OpcodeRow.cmpImm (c : Cond) (rn : RegNo) (sbz : BitVec 4) (rot : BitVec 4) (imm : BitVec 8) :
    OpcodeRow.Statement (.cmpImm c rn sbz rot imm) :=
  pack_masked rfl (rfl : _ = pack 0x0 0xF 0xF 0x0 0x0 0x0 0x0 0x0)
    (rfl : _ = pack 0x0 0x3 0x5 0x0 0x0 0x0 0x0 0x0) BitVec.and_zero rfl rfl BitVec.and_zero
    BitVec.and_zero BitVec.and_zero BitVec.and_zero BitVec.and_zero

theorem OpcodeRow.cmpShiftImm (c : Cond) (rn : RegNo) (sbz : BitVec 4) (amount : BitVec 5) (kind : ShiftKind) (rm : RegNo) :
    OpcodeRow.Statement (.cmpShiftImm c rn sbz amount kind rm) :=
  pack_masked rfl (rfl : _ = pack 0x0 0xF 0xF 0x0 0x0 0x0 0x1 0x0)
    (rfl : _ = pack 0x0 0x1 0x5 0x0 0x0 0x0 0x0 0x0) BitVec.and_zero rfl rfl BitVec.and_zero
    BitVec.and_zero BitVec.and_zero (shift_nibble_bit4 ..) BitVec.and_zero

theorem OpcodeRow.cmpShiftReg (c : Cond) (rn : RegNo) (sbz : BitVec 4) (rs : RegNo) (kind : ShiftKind) (rm : RegNo) :
    OpcodeRow.Statement (.cmpShiftReg c rn sbz rs kind rm) :=
  pack_masked rfl (rfl : _ = pack 0x0 0xF 0xF 0x0 0x0 0x0 0x9 0x0)
    (rfl : _ = pack 0x0 0x1 0x5 0x0 0x0 0x0 0x1 0x0) BitVec.and_zero rfl rfl BitVec.and_zero
    BitVec.and_zero BitVec.and_zero (shift_nibble_bits74 ..) BitVec.and_zero

theorem OpcodeRow.cmnImm (c : Cond) (rn : RegNo) (sbz : BitVec 4) (rot : BitVec 4) (imm : BitVec 8) :
    OpcodeRow.Statement (.cmnImm c rn sbz rot imm) :=
  pack_masked rfl (rfl : _ = pack 0x0 0xF 0xF 0x0 0x0 0x0 0x0 0x0)
    (rfl : _ = pack 0x0 0x3 0x7 0x0 0x0 0x0 0x0 0x0) BitVec.and_zero rfl rfl BitVec.and_zero
    BitVec.and_zero BitVec.and_zero BitVec.and_zero BitVec.and_zero

theorem OpcodeRow.cmnShiftImm (c : Cond) (rn : RegNo) (sbz : BitVec 4) (amount : BitVec 5) (kind : ShiftKind) (rm : RegNo) :
    OpcodeRow.Statement (.cmnShiftImm c rn sbz amount kind rm) :=
  pack_masked rfl (rfl : _ = pack 0x0 0xF 0xF 0x0 0x0 0x0 0x1 0x0)
    (rfl : _ = pack 0x0 0x1 0x7 0x0 0x0 0x0 0x0 0x0) BitVec.and_zero rfl rfl BitVec.and_zero
    BitVec.and_zero BitVec.and_zero (shift_nibble_bit4 ..) BitVec.and_zero

theorem OpcodeRow.cmnShiftReg (c : Cond) (rn : RegNo) (sbz : BitVec 4) (rs : RegNo) (kind : ShiftKind) (rm : RegNo) :
    OpcodeRow.Statement (.cmnShiftReg c rn sbz rs kind rm) :=
  pack_masked rfl (rfl : _ = pack 0x0 0xF 0xF 0x0 0x0 0x0 0x9 0x0)
    (rfl : _ = pack 0x0 0x1 0x7 0x0 0x0 0x0 0x1 0x0) BitVec.and_zero rfl rfl BitVec.and_zero
    BitVec.and_zero BitVec.and_zero (shift_nibble_bits74 ..) BitVec.and_zero

theorem OpcodeRow.orrImm (c : Cond) (sf : Bool) (rn : RegNo) (rd : RegNo) (rot : BitVec 4) (imm : BitVec 8) :
    OpcodeRow.Statement (.orrImm c sf rn rd rot imm) :=
  pack_masked rfl (rfl : _ = pack 0x0 0xF 0xE 0x0 0x0 0x0 0x0 0x0)
    (rfl : _ = pack 0x0 0x3 0x8 0x0 0x0 0x0 0x0 0x0) BitVec.and_zero rfl (by cases sf <;> rfl) BitVec.and_zero
    BitVec.and_zero BitVec.and_zero BitVec.and_zero BitVec.and_zero

theorem OpcodeRow.orrShiftImm (c : Cond) (sf : Bool) (rn : RegNo) (rd : RegNo) (amount : BitVec 5) (kind : ShiftKind) (rm : RegNo) :
    OpcodeRow.Statement (.orrShiftImm c sf rn rd amount kind rm) :=
  pack_masked rfl (rfl : _ = pack 0x0 0xF 0xE 0x0 0x0 0x0 0x1 0x0)
    (rfl : _ = pack 0x0 0x1 0x8 0x0 0x0 0x0 0x0 0x0) BitVec.and_zero rfl (by cases sf <;> rfl) BitVec.and_zero
    BitVec.and_zero BitVec.and_zero (shift_nibble_bit4 ..) BitVec.and_zero

theorem OpcodeRow.orrShiftReg (c : Cond) (sf : Bool) (rn : RegNo) (rd : RegNo) (rs : RegNo) (kind : ShiftKind) (rm : RegNo) :
    OpcodeRow.Statement (.orrShiftReg c sf rn rd rs kind rm) :=
  pack_masked rfl (rfl : _ = pack 0x0 0xF 0xE 0x0 0x0 0x0 0x9 0x0)
    (rfl : _ = pack 0x0 0x1 0x8 0x0 0x0 0x0 0x1 0x0) BitVec.and_zero rfl (by cases sf <;> rfl) BitVec.and_zero
    BitVec.and_zero BitVec.and_zero (shift_nibble_bits74 ..) BitVec.and_zero

theorem OpcodeRow.movImm (c : Cond) (sf : Bool) (sbz : BitVec 4) (rd : RegNo) (rot : BitVec 4) (imm : BitVec 8) :
    OpcodeRow.Statement (.movImm c sf sbz rd rot imm) :=
  pack_masked rfl (rfl : _ = pack 0x0 0xF 0xE 0x0 0x0 0x0 0x0 0x0)
    (rfl : _ = pack 0x0 0x3 0xA 0x0 0x0 0x0 0x0 0x0) BitVec.and_zero rfl (by cases sf <;> rfl) BitVec.and_zero
    BitVec.and_zero BitVec.and_zero BitVec.and_zero BitVec.and_zero

theorem OpcodeRow.movShiftImm (c : Cond) (sf : Bool) (sbz : BitVec 4) (rd : RegNo) (amount : BitVec 5) (kind : ShiftKind) (rm : RegNo) :
    OpcodeRow.Statement (.movShiftImm c sf sbz rd amount kind rm) :=
  pack_masked rfl (rfl : _ = pack 0x0 0xF 0xE 0x0 0x0 0x0 0x1 0x0)
    (rfl : _ = pack 0x0 0x1 0xA 0x0 0x0 0x0 0x0 0x0) BitVec.and_zero rfl (by cases sf <;> rfl) BitVec.and_zero
    BitVec.and_zero BitVec.and_zero (shift_nibble_bit4 ..) BitVec.and_zero

theorem OpcodeRow.movShiftReg (c : Cond) (sf : Bool) (sbz : BitVec 4) (rd : RegNo) (rs : RegNo) (kind : ShiftKind) (rm : RegNo) :
    OpcodeRow.Statement (.movShiftReg c sf sbz rd rs kind rm) :=
  pack_masked rfl (rfl : _ = pack 0x0 0xF 0xE 0x0 0x0 0x0 0x9 0x0)
    (rfl : _ = pack 0x0 0x1 0xA 0x0 0x0 0x0 0x1 0x0) BitVec.and_zero rfl (by cases sf <;> rfl) BitVec.and_zero
    BitVec.and_zero BitVec.and_zero (shift_nibble_bits74 ..) BitVec.and_zero

theorem OpcodeRow.bicImm (c : Cond) (sf : Bool) (rn : RegNo) (rd : RegNo) (rot : BitVec 4) (imm : BitVec 8) :
    OpcodeRow.Statement (.bicImm c sf rn rd rot imm) :=
  pack_masked rfl (rfl : _ = pack 0x0 0xF 0xE 0x0 0x0 0x0 0x0 0x0)
    (rfl : _ = pack 0x0 0x3 0xC 0x0 0x0 0x0 0x0 0x0) BitVec.and_zero rfl (by cases sf <;> rfl) BitVec.and_zero
    BitVec.and_zero BitVec.and_zero BitVec.and_zero BitVec.and_zero

theorem OpcodeRow.bicShiftImm (c : Cond) (sf : Bool) (rn : RegNo) (rd : RegNo) (amount : BitVec 5) (kind : ShiftKind) (rm : RegNo) :
    OpcodeRow.Statement (.bicShiftImm c sf rn rd amount kind rm) :=
  pack_masked rfl (rfl : _ = pack 0x0 0xF 0xE 0x0 0x0 0x0 0x1 0x0)
    (rfl : _ = pack 0x0 0x1 0xC 0x0 0x0 0x0 0x0 0x0) BitVec.and_zero rfl (by cases sf <;> rfl) BitVec.and_zero
    BitVec.and_zero BitVec.and_zero (shift_nibble_bit4 ..) BitVec.and_zero

theorem OpcodeRow.bicShiftReg (c : Cond) (sf : Bool) (rn : RegNo) (rd : RegNo) (rs : RegNo) (kind : ShiftKind) (rm : RegNo) :
    OpcodeRow.Statement (.bicShiftReg c sf rn rd rs kind rm) :=
  pack_masked rfl (rfl : _ = pack 0x0 0xF 0xE 0x0 0x0 0x0 0x9 0x0)
    (rfl : _ = pack 0x0 0x1 0xC 0x0 0x0 0x0 0x1 0x0) BitVec.and_zero rfl (by cases sf <;> rfl) BitVec.and_zero
    BitVec.and_zero BitVec.and_zero (shift_nibble_bits74 ..) BitVec.and_zero

theorem OpcodeRow.mvnImm (c : Cond) (sf : Bool) (sbz : BitVec 4) (rd : RegNo) (rot : BitVec 4) (imm : BitVec 8) :
    OpcodeRow.Statement (.mvnImm c sf sbz rd rot imm) :=
  pack_masked rfl (rfl : _ = pack 0x0 0xF 0xE 0x0 0x0 0x0 0x0 0x0)
    (rfl : _ = pack 0x0 0x3 0xE 0x0 0x0 0x0 0x0 0x0) BitVec.and_zero rfl (by cases sf <;> rfl) BitVec.and_zero
    BitVec.and_zero BitVec.and_zero BitVec.and_zero BitVec.and_zero

theorem OpcodeRow.mvnShiftImm (c : Cond) (sf : Bool) (sbz : BitVec 4) (rd : RegNo) (amount : BitVec 5) (kind : ShiftKind) (rm : RegNo) :
    OpcodeRow.Statement (.mvnShiftImm c sf sbz rd amount kind rm) :=
  pack_masked rfl (rfl : _ = pack 0x0 0xF 0xE 0x0 0x0 0x0 0x1 0x0)
    (rfl : _ = pack 0x0 0x1 0xE 0x0 0x0 0x0 0x0 0x0) BitVec.and_zero rfl (by cases sf <;> rfl) BitVec.and_zero
    BitVec.and_zero BitVec.and_zero (shift_nibble_bit4 ..) BitVec.and_zero

theorem OpcodeRow.mvnShiftReg (c : Cond) (sf : Bool) (sbz : BitVec 4) (rd : RegNo) (rs : RegNo) (kind : ShiftKind) (rm : RegNo) :
    OpcodeRow.Statement (.mvnShiftReg c sf sbz rd rs kind rm) :=
  pack_masked rfl (rfl : _ = pack 0x0 0xF 0xE 0x0 0x0 0x0 0x9 0x0)
    (rfl : _ = pack 0x0 0x1 0xE 0x0 0x0 0x0 0x1 0x0) BitVec.and_zero rfl (by cases sf <;> rfl) BitVec.and_zero
    BitVec.and_zero BitVec.and_zero (shift_nibble_bits74 ..) BitVec.and_zero

theorem OpcodeRow.mul (c : Cond) (sf : Bool) (rd : RegNo) (sbz : BitVec 4) (rs : RegNo) (rm : RegNo) :
    OpcodeRow.Statement (.mul c sf rd sbz rs rm) :=
  pack_masked rfl (rfl : _ = pack 0x0 0xF 0xE 0x0 0x0 0x0 0xF 0x0)
    (rfl : _ = pack 0x0 0x0 0x0 0x0 0x0 0x0 0x9 0x0) BitVec.and_zero rfl (by cases sf <;> rfl) BitVec.and_zero
    BitVec.and_zero BitVec.and_zero rfl BitVec.and_zero

theorem OpcodeRow.mla (c : Cond) (sf : Bool) (rd : RegNo) (rn : RegNo) (rs : RegNo) (rm : RegNo) :
    OpcodeRow.Statement (.mla c sf rd rn rs rm) :=
  pack_masked rfl (rfl : _ = pack 0x0 0xF 0xE 0x0 0x0 0x0 0xF 0x0)
    (rfl : _ = pack 0x0 0x0 0x2 0x0 0x0 0x0 0x9 0x0) BitVec.and_zero rfl (by cases sf <;> rfl) BitVec.and_zero
    BitVec.and_zero BitVec.and_zero rfl BitVec.and_zero

theorem OpcodeRow.umull (c : Cond) (sf : Bool) (rdHi : RegNo) (rdLo : RegNo) (rs : RegNo) (rm : RegNo) :
    OpcodeRow.Statement (.umull c sf rdHi rdLo rs rm) :=
  pack_masked rfl (rfl : _ = pack 0x0 0xF 0xE 0x0 0x0 0x0 0xF 0x0)
    (rfl : _ = pack 0x0 0x0 0x8 0x0 0x0 0x0 0x9 0x0) BitVec.and_zero rfl (by cases sf <;> rfl) BitVec.and_zero
    BitVec.and_zero BitVec.and_zero rfl BitVec.and_zero

theorem OpcodeRow.umlal (c : Cond) (sf : Bool) (rdHi : RegNo) (rdLo : RegNo) (rs : RegNo) (rm : RegNo) :
    OpcodeRow.Statement (.umlal c sf rdHi rdLo rs rm) :=
  pack_masked rfl (rfl : _ = pack 0x0 0xF 0xE 0x0 0x0 0x0 0xF 0x0)
    (rfl : _ = pack 0x0 0x0 0xA 0x0 0x0 0x0 0x9 0x0) BitVec.and_zero rfl (by cases sf <;> rfl) BitVec.and_zero
    BitVec.and_zero BitVec.and_zero rfl BitVec.and_zero

theorem OpcodeRow.smull (c : Cond) (sf : Bool) (rdHi : RegNo) (rdLo : RegNo) (rs : RegNo) (rm : RegNo) :
    OpcodeRow.Statement (.smull c sf rdHi rdLo rs rm) :=
  pack_masked rfl (rfl : _ = pack 0x0 0xF 0xE 0x0 0x0 0x0 0xF 0x0)
    (rfl : _ = pack 0x0 0x0 0xC 0x0 0x0 0x0 0x9 0x0) BitVec.and_zero rfl (by cases sf <;> rfl) BitVec.and_zero
    BitVec.and_zero BitVec.and_zero rfl BitVec.and_zero

theorem OpcodeRow.smlal (c : Cond) (sf : Bool) (rdHi : RegNo) (rdLo : RegNo) (rs : RegNo) (rm : RegNo) :
    OpcodeRow.Statement (.smlal c sf rdHi rdLo rs rm) :=
  pack_masked rfl (rfl : _ = pack 0x0 0xF 0xE 0x0 0x0 0x0 0xF 0x0)
    (rfl : _ = pack 0x0 0x0 0xE 0x0 0x0 0x0 0x9 0x0) BitVec.and_zero rfl (by cases sf <;> rfl) BitVec.and_zero
    BitVec.and_zero BitVec.and_zero rfl BitVec.and_zero

theorem OpcodeRow.clz (c : Cond) (sboHi : BitVec 4) (rd : RegNo) (sboLo : BitVec 4) (rm : RegNo) :
    OpcodeRow.Statement (.clz c sboHi rd sboLo rm) :=
  pack_masked rfl (rfl : _ = pack 0x0 0xF 0xF 0x0 0x0 0x0 0xF 0x0)
    (rfl : _ = pack 0x0 0x1 0x6 0x0 0x0 0x0 0x1 0x0) BitVec.and_zero rfl rfl BitVec.and_zero
    BitVec.and_zero BitVec.and_zero rfl BitVec.and_zero

theorem OpcodeRow.swp (c : Cond) (rn : RegNo) (rd : RegNo) (sbz : BitVec 4) (rm : RegNo) :
    OpcodeRow.Statement (.swp c rn rd sbz rm) :=
  pack_masked rfl (rfl : _ = pack 0x0 0xF 0xF 0x0 0x0 0x0 0xF 0x0)
    (rfl : _ = pack 0x0 0x1 0x0 0x0 0x0 0x0 0x9 0x0) BitVec.and_zero rfl rfl BitVec.and_zero
    BitVec.and_zero BitVec.and_zero rfl BitVec.and_zero

theorem OpcodeRow.swpb (c : Cond) (rn : RegNo) (rd : RegNo) (sbz : BitVec 4) (rm : RegNo) :
    OpcodeRow.Statement (.swpb c rn rd sbz rm) :=
  pack_masked rfl (rfl : _ = pack 0x0 0xF 0xF 0x0 0x0 0x0 0xF 0x0)
    (rfl : _ = pack 0x0 0x1 0x4 0x0 0x0 0x0 0x9 0x0) BitVec.and_zero rfl rfl BitVec.and_zero
    BitVec.and_zero BitVec.and_zero rfl BitVec.and_zero

theorem OpcodeRow.mrs (c : Cond) (spsr : Bool) (sbo : BitVec 4) (rd : RegNo) (sbzHi : BitVec 4) (sbzLo : BitVec 4) :
    OpcodeRow.Statement (.mrs c spsr sbo rd sbzHi sbzLo) :=
  pack_masked rfl (rfl : _ = pack 0x0 0xF 0xB 0x0 0x0 0x0 0xF 0x0)
    (rfl : _ = pack 0x0 0x1 0x0 0x0 0x0 0x0 0x0 0x0) BitVec.and_zero rfl (by cases spsr <;> rfl) BitVec.and_zero
    BitVec.and_zero BitVec.and_zero rfl BitVec.and_zero

theorem OpcodeRow.msrReg (c : Cond) (spsr : Bool) (fields : BitVec 4) (sbo : BitVec 4) (sbz : BitVec 4) (rm : RegNo) :
    OpcodeRow.Statement (.msrReg c spsr fields sbo sbz rm) :=
  pack_masked rfl (rfl : _ = pack 0x0 0xF 0xB 0x0 0x0 0x0 0xF 0x0)
    (rfl : _ = pack 0x0 0x1 0x2 0x0 0x0 0x0 0x0 0x0) BitVec.and_zero rfl (by cases spsr <;> rfl) BitVec.and_zero
    BitVec.and_zero BitVec.and_zero rfl BitVec.and_zero

theorem OpcodeRow.msrImm (c : Cond) (spsr : Bool) (fields : BitVec 4) (sbo : BitVec 4) (rot : BitVec 4) (imm : BitVec 8) :
    OpcodeRow.Statement (.msrImm c spsr fields sbo rot imm) :=
  pack_masked rfl (rfl : _ = pack 0x0 0xF 0xB 0x0 0x0 0x0 0x0 0x0)
    (rfl : _ = pack 0x0 0x3 0x2 0x0 0x0 0x0 0x0 0x0) BitVec.and_zero rfl (by cases spsr <;> rfl) BitVec.and_zero
    BitVec.and_zero BitVec.and_zero BitVec.and_zero BitVec.and_zero

theorem OpcodeRow.bx (c : Cond) (sbo : BitVec 12) (rm : RegNo) : OpcodeRow.Statement (.bx c sbo rm) :=
  pack_masked rfl (rfl : _ = pack 0x0 0xF 0xF 0x0 0x0 0x0 0xF 0x0)
    (rfl : _ = pack 0x0 0x1 0x2 0x0 0x0 0x0 0x1 0x0) BitVec.and_zero rfl rfl BitVec.and_zero
    BitVec.and_zero BitVec.and_zero rfl BitVec.and_zero

theorem OpcodeRow.blxReg (c : Cond) (sbo : BitVec 12) (rm : RegNo) : OpcodeRow.Statement (.blxReg c sbo rm) :=
  pack_masked rfl (rfl : _ = pack 0x0 0xF 0xF 0x0 0x0 0x0 0xF 0x0)
    (rfl : _ = pack 0x0 0x1 0x2 0x0 0x0 0x0 0x3 0x0) BitVec.and_zero rfl rfl BitVec.and_zero
    BitVec.and_zero BitVec.and_zero rfl BitVec.and_zero

theorem OpcodeRow.bkpt (c : Cond) (immH : BitVec 12) (immL : BitVec 4) : OpcodeRow.Statement (.bkpt c immH immL) :=
  pack_masked rfl (rfl : _ = pack 0x0 0xF 0xF 0x0 0x0 0x0 0xF 0x0)
    (rfl : _ = pack 0x0 0x1 0x2 0x0 0x0 0x0 0x7 0x0) BitVec.and_zero rfl rfl BitVec.and_zero
    BitVec.and_zero BitVec.and_zero rfl BitVec.and_zero

theorem OpcodeRow.strhImm (c : Cond) (p : Bool) (u : Bool) (w : Bool) (rn : RegNo) (rd : RegNo) (immH : BitVec 4) (immL : BitVec 4) :
    OpcodeRow.Statement (.strhImm c p u w rn rd immH immL) :=
  pack_masked rfl (rfl : _ = pack 0x0 0xE 0x5 0x0 0x0 0x0 0xF 0x0)
    (rfl : _ = pack 0x0 0x0 0x4 0x0 0x0 0x0 0xB 0x0) BitVec.and_zero (by cases p <;> rfl) (by cases u <;> cases w <;> rfl) BitVec.and_zero
    BitVec.and_zero BitVec.and_zero rfl BitVec.and_zero

theorem OpcodeRow.strhReg (c : Cond) (p : Bool) (u : Bool) (w : Bool) (rn : RegNo) (rd : RegNo) (sbz : BitVec 4) (rm : RegNo) :
    OpcodeRow.Statement (.strhReg c p u w rn rd sbz rm) :=
  pack_masked rfl (rfl : _ = pack 0x0 0xE 0x5 0x0 0x0 0x0 0xF 0x0)
    (rfl : _ = pack 0x0 0x0 0x0 0x0 0x0 0x0 0xB 0x0) BitVec.and_zero (by cases p <;> rfl) (by cases u <;> cases w <;> rfl) BitVec.and_zero
    BitVec.and_zero BitVec.and_zero rfl BitVec.and_zero

theorem OpcodeRow.ldrhImm (c : Cond) (p : Bool) (u : Bool) (w : Bool) (rn : RegNo) (rd : RegNo) (immH : BitVec 4) (immL : BitVec 4) :
    OpcodeRow.Statement (.ldrhImm c p u w rn rd immH immL) :=
  pack_masked rfl (rfl : _ = pack 0x0 0xE 0x5 0x0 0x0 0x0 0xF 0x0)
    (rfl : _ = pack 0x0 0x0 0x5 0x0 0x0 0x0 0xB 0x0) BitVec.and_zero (by cases p <;> rfl) (by cases u <;> cases w <;> rfl) BitVec.and_zero
    BitVec.and_zero BitVec.and_zero rfl BitVec.and_zero

theorem OpcodeRow.ldrhReg (c : Cond) (p : Bool) (u : Bool) (w : Bool) (rn : RegNo) (rd : RegNo) (sbz : BitVec 4) (rm : RegNo) :
    OpcodeRow.Statement (.ldrhReg c p u w rn rd sbz rm) :=
  pack_masked rfl (rfl : _ = pack 0x0 0xE 0x5 0x0 0x0 0x0 0xF 0x0)
    (rfl : _ = pack 0x0 0x0 0x1 0x0 0x0 0x0 0xB 0x0) BitVec.and_zero (by cases p <;> rfl) (by cases u <;> cases w <;> rfl) BitVec.and_zero
    BitVec.and_zero BitVec.and_zero rfl BitVec.and_zero

theorem OpcodeRow.ldrsbImm (c : Cond) (p : Bool) (u : Bool) (w : Bool) (rn : RegNo) (rd : RegNo) (immH : BitVec 4) (immL : BitVec 4) :
    OpcodeRow.Statement (.ldrsbImm c p u w rn rd immH immL) :=
  pack_masked rfl (rfl : _ = pack 0x0 0xE 0x5 0x0 0x0 0x0 0xF 0x0)
    (rfl : _ = pack 0x0 0x0 0x5 0x0 0x0 0x0 0xD 0x0) BitVec.and_zero (by cases p <;> rfl) (by cases u <;> cases w <;> rfl) BitVec.and_zero
    BitVec.and_zero BitVec.and_zero rfl BitVec.and_zero

theorem OpcodeRow.ldrsbReg (c : Cond) (p : Bool) (u : Bool) (w : Bool) (rn : RegNo) (rd : RegNo) (sbz : BitVec 4) (rm : RegNo) :
    OpcodeRow.Statement (.ldrsbReg c p u w rn rd sbz rm) :=
  pack_masked rfl (rfl : _ = pack 0x0 0xE 0x5 0x0 0x0 0x0 0xF 0x0)
    (rfl : _ = pack 0x0 0x0 0x1 0x0 0x0 0x0 0xD 0x0) BitVec.and_zero (by cases p <;> rfl) (by cases u <;> cases w <;> rfl) BitVec.and_zero
    BitVec.and_zero BitVec.and_zero rfl BitVec.and_zero

theorem OpcodeRow.ldrshImm (c : Cond) (p : Bool) (u : Bool) (w : Bool) (rn : RegNo) (rd : RegNo) (immH : BitVec 4) (immL : BitVec 4) :
    OpcodeRow.Statement (.ldrshImm c p u w rn rd immH immL) :=
  pack_masked rfl (rfl : _ = pack 0x0 0xE 0x5 0x0 0x0 0x0 0xF 0x0)
    (rfl : _ = pack 0x0 0x0 0x5 0x0 0x0 0x0 0xF 0x0) BitVec.and_zero (by cases p <;> rfl) (by cases u <;> cases w <;> rfl) BitVec.and_zero
    BitVec.and_zero BitVec.and_zero rfl BitVec.and_zero

theorem OpcodeRow.ldrshReg (c : Cond) (p : Bool) (u : Bool) (w : Bool) (rn : RegNo) (rd : RegNo) (sbz : BitVec 4) (rm : RegNo) :
    OpcodeRow.Statement (.ldrshReg c p u w rn rd sbz rm) :=
  pack_masked rfl (rfl : _ = pack 0x0 0xE 0x5 0x0 0x0 0x0 0xF 0x0)
    (rfl : _ = pack 0x0 0x0 0x1 0x0 0x0 0x0 0xF 0x0) BitVec.and_zero (by cases p <;> rfl) (by cases u <;> cases w <;> rfl) BitVec.and_zero
    BitVec.and_zero BitVec.and_zero rfl BitVec.and_zero

theorem OpcodeRow.ldrImm (c : Cond) (u : Bool) (w : Bool) (rn : RegNo) (rd : RegNo) (imm : BitVec 12) :
    OpcodeRow.Statement (.ldrImm c u w rn rd imm) :=
  pack_masked rfl (rfl : _ = pack 0x0 0xF 0x5 0x0 0x0 0x0 0x0 0x0)
    (rfl : _ = pack 0x0 0x5 0x1 0x0 0x0 0x0 0x0 0x0) BitVec.and_zero rfl (by cases u <;> cases w <;> rfl) BitVec.and_zero
    BitVec.and_zero BitVec.and_zero BitVec.and_zero BitVec.and_zero

theorem OpcodeRow.ldrImmPost (c : Cond) (u : Bool) (rn : RegNo) (rd : RegNo) (imm : BitVec 12) :
    OpcodeRow.Statement (.ldrImmPost c u rn rd imm) :=
  pack_masked rfl (rfl : _ = pack 0x0 0xF 0x7 0x0 0x0 0x0 0x0 0x0)
    (rfl : _ = pack 0x0 0x4 0x1 0x0 0x0 0x0 0x0 0x0) BitVec.and_zero rfl (by cases u <;> rfl) BitVec.and_zero
    BitVec.and_zero BitVec.and_zero BitVec.and_zero BitVec.and_zero

theorem OpcodeRow.ldrtImm (c : Cond) (u : Bool) (rn : RegNo) (rd : RegNo) (imm : BitVec 12) :
    OpcodeRow.Statement (.ldrtImm c u rn rd imm) :=
  pack_masked rfl (rfl : _ = pack 0x0 0xF 0x7 0x0 0x0 0x0 0x0 0x0)
    (rfl : _ = pack 0x0 0x4 0x3 0x0 0x0 0x0 0x0 0x0) BitVec.and_zero rfl (by cases u <;> rfl) BitVec.and_zero
    BitVec.and_zero BitVec.and_zero BitVec.and_zero BitVec.and_zero

theorem OpcodeRow.ldrReg (c : Cond) (u : Bool) (w : Bool) (rn : RegNo) (rd : RegNo) (amount : BitVec 5) (kind : ShiftKind) (rm : RegNo) :
    OpcodeRow.Statement (.ldrReg c u w rn rd amount kind rm) :=
  pack_masked rfl (rfl : _ = pack 0x0 0xF 0x5 0x0 0x0 0x0 0x1 0x0)
    (rfl : _ = pack 0x0 0x7 0x1 0x0 0x0 0x0 0x0 0x0) BitVec.and_zero rfl (by cases u <;> cases w <;> rfl) BitVec.and_zero
    BitVec.and_zero BitVec.and_zero (shift_nibble_bit4 ..) BitVec.and_zero

theorem OpcodeRow.ldrRegPost (c : Cond) (u : Bool) (rn : RegNo) (rd : RegNo) (amount : BitVec 5) (kind : ShiftKind) (rm : RegNo) :
    OpcodeRow.Statement (.ldrRegPost c u rn rd amount kind rm) :=
  pack_masked rfl (rfl : _ = pack 0x0 0xF 0x7 0x0 0x0 0x0 0x1 0x0)
    (rfl : _ = pack 0x0 0x6 0x1 0x0 0x0 0x0 0x0 0x0) BitVec.and_zero rfl (by cases u <;> rfl) BitVec.and_zero
    BitVec.and_zero BitVec.and_zero (shift_nibble_bit4 ..) BitVec.and_zero

theorem OpcodeRow.ldrtReg (c : Cond) (u : Bool) (rn : RegNo) (rd : RegNo) (amount : BitVec 5) (kind : ShiftKind) (rm : RegNo) :
    OpcodeRow.Statement (.ldrtReg c u rn rd amount kind rm) :=
  pack_masked rfl (rfl : _ = pack 0x0 0xF 0x7 0x0 0x0 0x0 0x1 0x0)
    (rfl : _ = pack 0x0 0x6 0x3 0x0 0x0 0x0 0x0 0x0) BitVec.and_zero rfl (by cases u <;> rfl) BitVec.and_zero
    BitVec.and_zero BitVec.and_zero (shift_nibble_bit4 ..) BitVec.and_zero

theorem OpcodeRow.strImm (c : Cond) (u : Bool) (w : Bool) (rn : RegNo) (rd : RegNo) (imm : BitVec 12) :
    OpcodeRow.Statement (.strImm c u w rn rd imm) :=
  pack_masked rfl (rfl : _ = pack 0x0 0xF 0x5 0x0 0x0 0x0 0x0 0x0)
    (rfl : _ = pack 0x0 0x5 0x0 0x0 0x0 0x0 0x0 0x0) BitVec.and_zero rfl (by cases u <;> cases w <;> rfl) BitVec.and_zero
    BitVec.and_zero BitVec.and_zero BitVec.and_zero BitVec.and_zero

theorem OpcodeRow.strImmPost (c : Cond) (u : Bool) (rn : RegNo) (rd : RegNo) (imm : BitVec 12) :
    OpcodeRow.Statement (.strImmPost c u rn rd imm) :=
  pack_masked rfl (rfl : _ = pack 0x0 0xF 0x7 0x0 0x0 0x0 0x0 0x0)
    (rfl : _ = pack 0x0 0x4 0x0 0x0 0x0 0x0 0x0 0x0) BitVec.and_zero rfl (by cases u <;> rfl) BitVec.and_zero
    BitVec.and_zero BitVec.and_zero BitVec.and_zero BitVec.and_zero

theorem OpcodeRow.strtImm (c : Cond) (u : Bool) (rn : RegNo) (rd : RegNo) (imm : BitVec 12) :
    OpcodeRow.Statement (.strtImm c u rn rd imm) :=
  pack_masked rfl (rfl : _ = pack 0x0 0xF 0x7 0x0 0x0 0x0 0x0 0x0)
    (rfl : _ = pack 0x0 0x4 0x2 0x0 0x0 0x0 0x0 0x0) BitVec.and_zero rfl (by cases u <;> rfl) BitVec.and_zero
    BitVec.and_zero BitVec.and_zero BitVec.and_zero BitVec.and_zero

theorem OpcodeRow.strReg (c : Cond) (u : Bool) (w : Bool) (rn : RegNo) (rd : RegNo) (amount : BitVec 5) (kind : ShiftKind) (rm : RegNo) :
    OpcodeRow.Statement (.strReg c u w rn rd amount kind rm) :=
  pack_masked rfl (rfl : _ = pack 0x0 0xF 0x5 0x0 0x0 0x0 0x1 0x0)
    (rfl : _ = pack 0x0 0x7 0x0 0x0 0x0 0x0 0x0 0x0) BitVec.and_zero rfl (by cases u <;> cases w <;> rfl) BitVec.and_zero
    BitVec.and_zero BitVec.and_zero (shift_nibble_bit4 ..) BitVec.and_zero

theorem OpcodeRow.strRegPost (c : Cond) (u : Bool) (rn : RegNo) (rd : RegNo) (amount : BitVec 5) (kind : ShiftKind) (rm : RegNo) :
    OpcodeRow.Statement (.strRegPost c u rn rd amount kind rm) :=
  pack_masked rfl (rfl : _ = pack 0x0 0xF 0x7 0x0 0x0 0x0 0x1 0x0)
    (rfl : _ = pack 0x0 0x6 0x0 0x0 0x0 0x0 0x0 0x0) BitVec.and_zero rfl (by cases u <;> rfl) BitVec.and_zero
    BitVec.and_zero BitVec.and_zero (shift_nibble_bit4 ..) BitVec.and_zero

theorem OpcodeRow.strtReg (c : Cond) (u : Bool) (rn : RegNo) (rd : RegNo) (amount : BitVec 5) (kind : ShiftKind) (rm : RegNo) :
    OpcodeRow.Statement (.strtReg c u rn rd amount kind rm) :=
  pack_masked rfl (rfl : _ = pack 0x0 0xF 0x7 0x0 0x0 0x0 0x1 0x0)
    (rfl : _ = pack 0x0 0x6 0x2 0x0 0x0 0x0 0x0 0x0) BitVec.and_zero rfl (by cases u <;> rfl) BitVec.and_zero
    BitVec.and_zero BitVec.and_zero (shift_nibble_bit4 ..) BitVec.and_zero

theorem OpcodeRow.ldrbImm (c : Cond) (u : Bool) (w : Bool) (rn : RegNo) (rd : RegNo) (imm : BitVec 12) :
    OpcodeRow.Statement (.ldrbImm c u w rn rd imm) :=
  pack_masked rfl (rfl : _ = pack 0x0 0xF 0x5 0x0 0x0 0x0 0x0 0x0)
    (rfl : _ = pack 0x0 0x5 0x5 0x0 0x0 0x0 0x0 0x0) BitVec.and_zero rfl (by cases u <;> cases w <;> rfl) BitVec.and_zero
    BitVec.and_zero BitVec.and_zero BitVec.and_zero BitVec.and_zero

theorem OpcodeRow.ldrbImmPost (c : Cond) (u : Bool) (rn : RegNo) (rd : RegNo) (imm : BitVec 12) :
    OpcodeRow.Statement (.ldrbImmPost c u rn rd imm) :=
  pack_masked rfl (rfl : _ = pack 0x0 0xF 0x7 0x0 0x0 0x0 0x0 0x0)
    (rfl : _ = pack 0x0 0x4 0x5 0x0 0x0 0x0 0x0 0x0) BitVec.and_zero rfl (by cases u <;> rfl) BitVec.and_zero
    BitVec.and_zero BitVec.and_zero BitVec.and_zero BitVec.and_zero

theorem OpcodeRow.ldrbtImm (c : Cond) (u : Bool) (rn : RegNo) (rd : RegNo) (imm : BitVec 12) :
    OpcodeRow.Statement (.ldrbtImm c u rn rd imm) :=
  pack_masked rfl (rfl : _ = pack 0x0 0xF 0x7 0x0 0x0 0x0 0x0 0x0)
    (rfl : _ = pack 0x0 0x4 0x7 0x0 0x0 0x0 0x0 0x0) BitVec.and_zero rfl (by cases u <;> rfl) BitVec.and_zero
    BitVec.and_zero BitVec.and_zero BitVec.and_zero BitVec.and_zero

theorem OpcodeRow.ldrbReg (c : Cond) (u : Bool) (w : Bool) (rn : RegNo) (rd : RegNo) (amount : BitVec 5) (kind : ShiftKind) (rm : RegNo) :
    OpcodeRow.Statement (.ldrbReg c u w rn rd amount kind rm) :=
  pack_masked rfl (rfl : _ = pack 0x0 0xF 0x5 0x0 0x0 0x0 0x1 0x0)
    (rfl : _ = pack 0x0 0x7 0x5 0x0 0x0 0x0 0x0 0x0) BitVec.and_zero rfl (by cases u <;> cases w <;> rfl) BitVec.and_zero
    BitVec.and_zero BitVec.and_zero (shift_nibble_bit4 ..) BitVec.and_zero

theorem OpcodeRow.ldrbRegPost (c : Cond) (u : Bool) (rn : RegNo) (rd : RegNo) (amount : BitVec 5) (kind : ShiftKind) (rm : RegNo) :
    OpcodeRow.Statement (.ldrbRegPost c u rn rd amount kind rm) :=
  pack_masked rfl (rfl : _ = pack 0x0 0xF 0x7 0x0 0x0 0x0 0x1 0x0)
    (rfl : _ = pack 0x0 0x6 0x5 0x0 0x0 0x0 0x0 0x0) BitVec.and_zero rfl (by cases u <;> rfl) BitVec.and_zero
    BitVec.and_zero BitVec.and_zero (shift_nibble_bit4 ..) BitVec.and_zero

theorem OpcodeRow.ldrbtReg (c : Cond) (u : Bool) (rn : RegNo) (rd : RegNo) (amount : BitVec 5) (kind : ShiftKind) (rm : RegNo) :
    OpcodeRow.Statement (.ldrbtReg c u rn rd amount kind rm) :=
  pack_masked rfl (rfl : _ = pack 0x0 0xF 0x7 0x0 0x0 0x0 0x1 0x0)
    (rfl : _ = pack 0x0 0x6 0x7 0x0 0x0 0x0 0x0 0x0) BitVec.and_zero rfl (by cases u <;> rfl) BitVec.and_zero
    BitVec.and_zero BitVec.and_zero (shift_nibble_bit4 ..) BitVec.and_zero

theorem OpcodeRow.strbImm (c : Cond) (u : Bool) (w : Bool) (rn : RegNo) (rd : RegNo) (imm : BitVec 12) :
    OpcodeRow.Statement (.strbImm c u w rn rd imm) :=
  pack_masked rfl (rfl : _ = pack 0x0 0xF 0x5 0x0 0x0 0x0 0x0 0x0)
    (rfl : _ = pack 0x0 0x5 0x4 0x0 0x0 0x0 0x0 0x0) BitVec.and_zero rfl (by cases u <;> cases w <;> rfl) BitVec.and_zero
    BitVec.and_zero BitVec.and_zero BitVec.and_zero BitVec.and_zero

theorem OpcodeRow.strbImmPost (c : Cond) (u : Bool) (rn : RegNo) (rd : RegNo) (imm : BitVec 12) :
    OpcodeRow.Statement (.strbImmPost c u rn rd imm) :=
  pack_masked rfl (rfl : _ = pack 0x0 0xF 0x7 0x0 0x0 0x0 0x0 0x0)
    (rfl : _ = pack 0x0 0x4 0x4 0x0 0x0 0x0 0x0 0x0) BitVec.and_zero rfl (by cases u <;> rfl) BitVec.and_zero
    BitVec.and_zero BitVec.and_zero BitVec.and_zero BitVec.and_zero

theorem OpcodeRow.strbtImm (c : Cond) (u : Bool) (rn : RegNo) (rd : RegNo) (imm : BitVec 12) :
    OpcodeRow.Statement (.strbtImm c u rn rd imm) :=
  pack_masked rfl (rfl : _ = pack 0x0 0xF 0x7 0x0 0x0 0x0 0x0 0x0)
    (rfl : _ = pack 0x0 0x4 0x6 0x0 0x0 0x0 0x0 0x0) BitVec.and_zero rfl (by cases u <;> rfl) BitVec.and_zero
    BitVec.and_zero BitVec.and_zero BitVec.and_zero BitVec.and_zero

theorem OpcodeRow.strbReg (c : Cond) (u : Bool) (w : Bool) (rn : RegNo) (rd : RegNo) (amount : BitVec 5) (kind : ShiftKind) (rm : RegNo) :
    OpcodeRow.Statement (.strbReg c u w rn rd amount kind rm) :=
  pack_masked rfl (rfl : _ = pack 0x0 0xF 0x5 0x0 0x0 0x0 0x1 0x0)
    (rfl : _ = pack 0x0 0x7 0x4 0x0 0x0 0x0 0x0 0x0) BitVec.and_zero rfl (by cases u <;> cases w <;> rfl) BitVec.and_zero
    BitVec.and_zero BitVec.and_zero (shift_nibble_bit4 ..) BitVec.and_zero

theorem OpcodeRow.strbRegPost (c : Cond) (u : Bool) (rn : RegNo) (rd : RegNo) (amount : BitVec 5) (kind : ShiftKind) (rm : RegNo) :
    OpcodeRow.Statement (.strbRegPost c u rn rd amount kind rm) :=
  pack_masked rfl (rfl : _ = pack 0x0 0xF 0x7 0x0 0x0 0x0 0x1 0x0)
    (rfl : _ = pack 0x0 0x6 0x4 0x0 0x0 0x0 0x0 0x0) BitVec.and_zero rfl (by cases u <;> rfl) BitVec.and_zero
    BitVec.and_zero BitVec.and_zero (shift_nibble_bit4 ..) BitVec.and_zero

theorem OpcodeRow.strbtReg (c : Cond) (u : Bool) (rn : RegNo) (rd : RegNo) (amount : BitVec 5) (kind : ShiftKind) (rm : RegNo) :
    OpcodeRow.Statement (.strbtReg c u rn rd amount kind rm) :=
  pack_masked rfl (rfl : _ = pack 0x0 0xF 0x7 0x0 0x0 0x0 0x1 0x0)
    (rfl : _ = pack 0x0 0x6 0x6 0x0 0x0 0x0 0x0 0x0) BitVec.and_zero rfl (by cases u <;> rfl) BitVec.and_zero
    BitVec.and_zero BitVec.and_zero (shift_nibble_bit4 ..) BitVec.and_zero

theorem OpcodeRow.ldm (c : Cond) (p : Bool) (u : Bool) (w : Bool) (rn : RegNo) (list : BitVec 16) :
    OpcodeRow.Statement (.ldm c p u w rn list) :=
  pack_masked rfl (rfl : _ = pack 0x0 0xE 0x5 0x0 0x0 0x0 0x0 0x0)
    (rfl : _ = pack 0x0 0x8 0x1 0x0 0x0 0x0 0x0 0x0) BitVec.and_zero (by cases p <;> rfl) (by cases u <;> cases w <;> rfl) BitVec.and_zero
    BitVec.and_zero BitVec.and_zero BitVec.and_zero BitVec.and_zero

theorem OpcodeRow.ldmUser (c : Cond) (p : Bool) (u : Bool) (w : Bool) (rn : RegNo) (list : BitVec 15) :
    OpcodeRow.Statement (.ldmUser c p u w rn list) :=
  pack_masked rfl (rfl : _ = pack 0x0 0xE 0x5 0x0 0x8 0x0 0x0 0x0)
    (rfl : _ = pack 0x0 0x8 0x5 0x0 0x0 0x0 0x0 0x0) BitVec.and_zero (by cases p <;> rfl) (by cases u <;> cases w <;> rfl) BitVec.and_zero
    (list_nibble_bit15 ..) BitVec.and_zero BitVec.and_zero BitVec.and_zero

theorem OpcodeRow.ldmReturn (c : Cond) (p : Bool) (u : Bool) (w : Bool) (rn : RegNo) (list : BitVec 15) :
    OpcodeRow.Statement (.ldmReturn c p u w rn list) :=
  pack_masked rfl (rfl : _ = pack 0x0 0xE 0x5 0x0 0x8 0x0 0x0 0x0)
    (rfl : _ = pack 0x0 0x8 0x5 0x0 0x8 0x0 0x0 0x0) BitVec.and_zero (by cases p <;> rfl) (by cases u <;> cases w <;> rfl) BitVec.and_zero
    (list_nibble_bit15 ..) BitVec.and_zero BitVec.and_zero BitVec.and_zero

theorem OpcodeRow.stm (c : Cond) (p : Bool) (u : Bool) (w : Bool) (rn : RegNo) (list : BitVec 16) :
    OpcodeRow.Statement (.stm c p u w rn list) :=
  pack_masked rfl (rfl : _ = pack 0x0 0xE 0x5 0x0 0x0 0x0 0x0 0x0)
    (rfl : _ = pack 0x0 0x8 0x0 0x0 0x0 0x0 0x0 0x0) BitVec.and_zero (by cases p <;> rfl) (by cases u <;> cases w <;> rfl) BitVec.and_zero
    BitVec.and_zero BitVec.and_zero BitVec.and_zero BitVec.and_zero

theorem OpcodeRow.stmUser (c : Cond) (p : Bool) (u : Bool) (w : Bool) (rn : RegNo) (list : BitVec 16) :
    OpcodeRow.Statement (.stmUser c p u w rn list) :=
  pack_masked rfl (rfl : _ = pack 0x0 0xE 0x5 0x0 0x0 0x0 0x0 0x0)
    (rfl : _ = pack 0x0 0x8 0x4 0x0 0x0 0x0 0x0 0x0) BitVec.and_zero (by cases p <;> rfl) (by cases u <;> cases w <;> rfl) BitVec.and_zero
    BitVec.and_zero BitVec.and_zero BitVec.and_zero BitVec.and_zero

theorem OpcodeRow.b (c : Cond) (imm : BitVec 24) : OpcodeRow.Statement (.b c imm) :=
  pack_masked rfl (rfl : _ = pack 0x0 0xF 0x0 0x0 0x0 0x0 0x0 0x0)
    (rfl : _ = pack 0x0 0xA 0x0 0x0 0x0 0x0 0x0 0x0) BitVec.and_zero rfl BitVec.and_zero BitVec.and_zero
    BitVec.and_zero BitVec.and_zero BitVec.and_zero BitVec.and_zero

theorem OpcodeRow.bl (c : Cond) (imm : BitVec 24) : OpcodeRow.Statement (.bl c imm) :=
  pack_masked rfl (rfl : _ = pack 0x0 0xF 0x0 0x0 0x0 0x0 0x0 0x0)
    (rfl : _ = pack 0x0 0xB 0x0 0x0 0x0 0x0 0x0 0x0) BitVec.and_zero rfl BitVec.and_zero BitVec.and_zero
    BitVec.and_zero BitVec.and_zero BitVec.and_zero BitVec.and_zero

theorem OpcodeRow.blxImm (h : Bool) (imm : BitVec 24) : OpcodeRow.Statement (.blxImm h imm) :=
  pack_masked rfl (rfl : _ = pack 0xF 0xE 0x0 0x0 0x0 0x0 0x0 0x0)
    (rfl : _ = pack 0xF 0xA 0x0 0x0 0x0 0x0 0x0 0x0) rfl (by cases h <;> rfl) BitVec.and_zero BitVec.and_zero
    BitVec.and_zero BitVec.and_zero BitVec.and_zero BitVec.and_zero

theorem OpcodeRow.ldcOffset (c : Cond) (u : Bool) (n : Bool) (w : Bool) (rn : RegNo) (crd : BitVec 4) (cp : BitVec 4) (imm : BitVec 8) :
    OpcodeRow.Statement (.ldcOffset c u n w rn crd cp imm) :=
  pack_masked rfl (rfl : _ = pack 0x0 0xF 0x1 0x0 0x0 0x0 0x0 0x0)
    (rfl : _ = pack 0x0 0xD 0x1 0x0 0x0 0x0 0x0 0x0) BitVec.and_zero rfl (by cases u <;> cases n <;> cases w <;> rfl) BitVec.and_zero
    BitVec.and_zero BitVec.and_zero BitVec.and_zero BitVec.and_zero

theorem OpcodeRow.ldcPostUp (c : Cond) (n : Bool) (w : Bool) (rn : RegNo) (crd : BitVec 4) (cp : BitVec 4) (imm : BitVec 8) :
    OpcodeRow.Statement (.ldcPostUp c n w rn crd cp imm) :=
  pack_masked rfl (rfl : _ = pack 0x0 0xF 0x9 0x0 0x0 0x0 0x0 0x0)
    (rfl : _ = pack 0x0 0xC 0x9 0x0 0x0 0x0 0x0 0x0) BitVec.and_zero rfl (by cases n <;> cases w <;> rfl) BitVec.and_zero
    BitVec.and_zero BitVec.and_zero BitVec.and_zero BitVec.and_zero

theorem OpcodeRow.ldcPostDown (c : Cond) (n : Bool) (rn : RegNo) (crd : BitVec 4) (cp : BitVec 4) (imm : BitVec 8) :
    OpcodeRow.Statement (.ldcPostDown c n rn crd cp imm) :=
  pack_masked rfl (rfl : _ = pack 0x0 0xF 0xB 0x0 0x0 0x0 0x0 0x0)
    (rfl : _ = pack 0x0 0xC 0x3 0x0 0x0 0x0 0x0 0x0) BitVec.and_zero rfl (by cases n <;> rfl) BitVec.and_zero
    BitVec.and_zero BitVec.and_zero BitVec.and_zero BitVec.and_zero

theorem OpcodeRow.stcOffset (c : Cond) (u : Bool) (n : Bool) (w : Bool) (rn : RegNo) (crd : BitVec 4) (cp : BitVec 4) (imm : BitVec 8) :
    OpcodeRow.Statement (.stcOffset c u n w rn crd cp imm) :=
  pack_masked rfl (rfl : _ = pack 0x0 0xF 0x1 0x0 0x0 0x0 0x0 0x0)
    (rfl : _ = pack 0x0 0xD 0x0 0x0 0x0 0x0 0x0 0x0) BitVec.and_zero rfl (by cases u <;> cases n <;> cases w <;> rfl) BitVec.and_zero
    BitVec.and_zero BitVec.and_zero BitVec.and_zero BitVec.and_zero

theorem OpcodeRow.stcPostUp (c : Cond) (n : Bool) (w : Bool) (rn : RegNo) (crd : BitVec 4) (cp : BitVec 4) (imm : BitVec 8) :
    OpcodeRow.Statement (.stcPostUp c n w rn crd cp imm) :=
  pack_masked rfl (rfl : _ = pack 0x0 0xF 0x9 0x0 0x0 0x0 0x0 0x0)
    (rfl : _ = pack 0x0 0xC 0x8 0x0 0x0 0x0 0x0 0x0) BitVec.and_zero rfl (by cases n <;> cases w <;> rfl) BitVec.and_zero
    BitVec.and_zero BitVec.and_zero BitVec.and_zero BitVec.and_zero

theorem OpcodeRow.stcPostDown (c : Cond) (n : Bool) (rn : RegNo) (crd : BitVec 4) (cp : BitVec 4) (imm : BitVec 8) :
    OpcodeRow.Statement (.stcPostDown c n rn crd cp imm) :=
  pack_masked rfl (rfl : _ = pack 0x0 0xF 0xB 0x0 0x0 0x0 0x0 0x0)
    (rfl : _ = pack 0x0 0xC 0x2 0x0 0x0 0x0 0x0 0x0) BitVec.and_zero rfl (by cases n <;> rfl) BitVec.and_zero
    BitVec.and_zero BitVec.and_zero BitVec.and_zero BitVec.and_zero

theorem OpcodeRow.cdp (c : Cond) (op1 : BitVec 4) (crn : BitVec 4) (crd : BitVec 4) (cp : BitVec 4) (op2 : BitVec 3) (crm : BitVec 4) :
    OpcodeRow.Statement (.cdp c op1 crn crd cp op2 crm) :=
  pack_masked rfl (rfl : _ = pack 0x0 0xF 0x0 0x0 0x0 0x0 0x1 0x0)
    (rfl : _ = pack 0x0 0xE 0x0 0x0 0x0 0x0 0x0 0x0) BitVec.and_zero rfl BitVec.and_zero BitVec.and_zero
    BitVec.and_zero BitVec.and_zero (low_bit ..) BitVec.and_zero

theorem OpcodeRow.mcr (c : Cond) (op1 : BitVec 3) (crn : BitVec 4) (rd : RegNo) (cp : BitVec 4) (op2 : BitVec 3) (crm : BitVec 4) :
    OpcodeRow.Statement (.mcr c op1 crn rd cp op2 crm) :=
  pack_masked rfl (rfl : _ = pack 0x0 0xF 0x1 0x0 0x0 0x0 0x1 0x0)
    (rfl : _ = pack 0x0 0xE 0x0 0x0 0x0 0x0 0x1 0x0) BitVec.and_zero rfl (low_bit ..) BitVec.and_zero
    BitVec.and_zero BitVec.and_zero (low_bit ..) BitVec.and_zero

theorem OpcodeRow.mrc (c : Cond) (op1 : BitVec 3) (crn : BitVec 4) (rd : RegNo) (cp : BitVec 4) (op2 : BitVec 3) (crm : BitVec 4) :
    OpcodeRow.Statement (.mrc c op1 crn rd cp op2 crm) :=
  pack_masked rfl (rfl : _ = pack 0x0 0xF 0x1 0x0 0x0 0x0 0x1 0x0)
    (rfl : _ = pack 0x0 0xE 0x1 0x0 0x0 0x0 0x1 0x0) BitVec.and_zero rfl (low_bit ..) BitVec.and_zero
    BitVec.and_zero BitVec.and_zero (low_bit ..) BitVec.and_zero

theorem OpcodeRow.swi (c : Cond) (imm : BitVec 24) : OpcodeRow.Statement (.swi c imm) :=
  pack_masked rfl (rfl : _ = pack 0x0 0xF 0x0 0x0 0x0 0x0 0x0 0x0)
    (rfl : _ = pack 0x0 0xF 0x0 0x0 0x0 0x0 0x0 0x0) BitVec.and_zero rfl BitVec.and_zero BitVec.and_zero
    BitVec.and_zero BitVec.and_zero BitVec.and_zero BitVec.and_zero

end Sys2Proof.Laws
end

