-- ==== Sys2Proof/WellFormed.lean ====
section
/-! DEFINITION. The well-formed instructions: those whose fields hold what the spec lets them hold. Every value of the type
`Instr` has an encoding; a well-formed one is moreover one that spec/ does not call UNPREDICTABLE for its operands
(spec/00_scope.md R13, spec/30_encoding.md R133). -/

namespace Sys2Proof

/-- No restriction on the operands is broken. -/
def Instr.wf (i : Instr) : Bool := (Machine.restriction i).isNone

end Sys2Proof
end

