-- ==== Sys2Proof/Tests/Slice0.lean ====
section
/-! SUPPORT. The tests: the form of instructions, the decoding of words written from the encoding tables of spec/, one step of the machine on
the vectors of spec/95_test_vectors.md, and for each statement with hypotheses a state and operands that meet them. -/

namespace Sys2Proof.Tests

open Sys2Proof.Machine Sys2Proof.Claims

/-! ### States and what is seen of a step -/

/-- A state with the pc at 0x8000: the CPSR, some registers of its mode, some memory words. -/
def st (cpsr : Word) (regs : List (RegNo × Word)) (words : List (Nat × Word)) : State :=
  regs.foldl (fun s r => s.setReg r.1 r.2)
    { State.reset with pc := 0x8000, cpsr := cpsr, mem := words.foldl (fun m w => m.writeBytes w.1 w.2 4) [] }

/-- The state with other parameters. -/
def withCfg (f : Config → Config) (s : State) : State := { s with cfg := f s.cfg }

/-- The state on a v5T processor. -/
def v5 (s : State) : State := withCfg (fun c => { c with archV5T := true }) s

/-- The state with the SPSR of a mode set. -/
def withSpsr (m : Mode) (v : Word) (s : State) : State := s.setSpsr (some m) v

/-- Every access from an address up aborts. -/
def above (a : Nat) : AbortRegion :=
  { first := a, last := 0xFFFFFFFF, widths := [.byte, .half, .word], kinds := [.read, .write, .fetch], user := true, privileged := true }

/-- One step on a word placed at the pc. -/
def run (w : Word) (s : State) : Result := step (placeWord w s)

/-- What is seen of a next state. -/
def seen {α : Type} (r : Result) (f : State → α) : Option α :=
  match r with
  | .next t => some (f t)
  | _ => none

/-- Why a step was refused. -/
def why (r : Result) : Option Unpredictable :=
  match r with
  | .refused (.unpredictable u) => some u
  | _ => none

/-! ### Well-formed instructions: an ill-formed term for each restriction (spec/93_implementation_defined.md) -/

/-- U18. -/
theorem test_wf_shift_by_register_of_r15 : Instr.wf (.addShiftReg .al false 1 0 15 .lsl 2) = false ∧ Instr.wf (.addShiftReg .al false 1 0 3 .lsl 2) = true := by decide

/-- U30, R133. -/
theorem test_wf_test_with_destination_field : Instr.wf (.cmpImm .al 0 1 0 5) = false ∧ Instr.wf (.cmpImm .al 0 0 0 5) = true := by decide

/-- U30, R133. -/
theorem test_wf_move_with_first_operand_field : Instr.wf (.movImm .al false 1 0 0 5) = false ∧ Instr.wf (.movImm .al false 0 0 0 5) = true := by decide

/-- U23. -/
theorem test_wf_multiply_same_registers : Instr.wf (.mul .al false 1 0 2 1) = false ∧ Instr.wf (.mul .al false 1 0 2 3) = true := by decide

/-- U23. -/
theorem test_wf_multiply_accumulate_of_r15 : Instr.wf (.mla .al false 1 15 2 3) = false ∧ Instr.wf (.mla .al false 1 1 2 3) = true := by decide

/-- U23. -/
theorem test_wf_long_multiply_one_destination : Instr.wf (.umull .al false 1 1 3 2) = false ∧ Instr.wf (.umull .al false 1 0 3 2) = true := by decide

/-- U24. -/
theorem test_wf_count_into_r15 : Instr.wf (.clz .al 15 15 15 0) = false ∧ Instr.wf (.clz .al 15 1 15 0) = true := by decide

/-- U39. -/
theorem test_wf_swap_base_as_destination : Instr.wf (.swp .al 2 2 0 1) = false ∧ Instr.wf (.swp .al 2 0 0 1) = true := by decide

/-- U39. -/
theorem test_wf_swap_byte_base_as_source : Instr.wf (.swpb .al 2 0 0 2) = false ∧ Instr.wf (.swpb .al 0 1 0 1) = true := by decide

/-- U40. -/
theorem test_wf_status_into_r15 : Instr.wf (.mrs .al false 15 15 0 0) = false ∧ Instr.wf (.mrs .al false 15 0 0 0) = true := by decide

/-- U40. -/
theorem test_wf_status_from_r15 : Instr.wf (.msrReg .al false 1 15 0 15) = false ∧ Instr.wf (.msrReg .al false 1 15 0 0) = true := by decide

/-- U30. -/
theorem test_wf_status_with_zero_ones_field : Instr.wf (.msrImm .al false 8 0 2 15) = false ∧ Instr.wf (.msrImm .al false 8 15 2 15) = true := by decide

/-- U30. -/
theorem test_wf_exchange_with_zero_ones_field : Instr.wf (.bx .al 0 14) = false ∧ Instr.wf (.bx .al 0xFFF 14) = true := by decide

/-- U17. -/
theorem test_wf_link_and_exchange_to_r15 : Instr.wf (.blxReg .al 0xFFF 15) = false ∧ Instr.wf (.blxReg .al 0xFFF 2) = true := by decide

/-- U31. -/
theorem test_wf_conditional_breakpoint : Instr.wf (.bkpt .eq 0 0) = false ∧ Instr.wf (.bkpt .al 0 0) = true := by decide

/-- U25. -/
theorem test_wf_write_back_into_the_destination : Instr.wf (.ldrImm .al true true 1 1 4) = false ∧ Instr.wf (.ldrImm .al true false 1 1 4) = true := by decide

/-- U25. -/
theorem test_wf_byte_into_r15 : Instr.wf (.ldrbImm .al true false 1 15 4) = false ∧ Instr.wf (.ldrImm .al true false 1 15 4) = true := by decide

/-- U25. -/
theorem test_wf_user_load_into_r15 : Instr.wf (.ldrtImm .al true 1 15 4) = false ∧ Instr.wf (.ldrtImm .al true 1 0 4) = true := by decide

/-- U25. -/
theorem test_wf_offset_register_r15 : Instr.wf (.strReg .al true false 1 0 0 .lsl 15) = false ∧ Instr.wf (.strReg .al true false 1 0 0 .lsl 2) = true := by decide

/-- U28. -/
theorem test_wf_halfword_post_index_with_w : Instr.wf (.ldrhImm .al false true true 1 0 0 2) = false ∧ Instr.wf (.ldrhImm .al false true false 1 0 0 2) = true := by decide

/-- U28. -/
theorem test_wf_halfword_into_r15 : Instr.wf (.strhReg .al true true false 1 15 0 2) = false ∧ Instr.wf (.strhReg .al true true false 1 0 0 2) = true := by decide

/-- U29. -/
theorem test_wf_empty_list : Instr.wf (.ldm .al false true false 0 0) = false ∧ Instr.wf (.ldm .al false true false 0 1) = true := by decide

/-- U29. -/
theorem test_wf_write_back_into_a_loaded_base : Instr.wf (.ldm .al false true true 0 3) = false ∧ Instr.wf (.ldm .al false true false 0 3) = true := by decide

/-- U29. -/
theorem test_wf_stored_base_not_lowest : Instr.wf (.stm .al false true true 1 3) = false ∧ Instr.wf (.stm .al false true true 0 3) = true := by decide

/-- U36. -/
theorem test_wf_user_bank_with_write_back : Instr.wf (.ldmUser .al false true true 0 0x6000) = false ∧ Instr.wf (.ldmUser .al false true false 0 0x6000) = true := by decide

/-- U29. -/
theorem test_wf_return_list_with_base : Instr.wf (.ldmReturn .al false true true 0 1) = false ∧ Instr.wf (.ldmReturn .al false true true 13 1) = true := by decide

/-- U42. -/
theorem test_wf_coprocessor_base_r15 : Instr.wf (.ldcOffset .al true false true 15 2 1 2) = false ∧ Instr.wf (.ldcOffset .al true false false 15 2 1 2) = true := by decide

/-! ### Decoding: for every row of the opcode table a word written field by field from its encoding (spec/30_encoding.md R104 to R127) -/

theorem test_decode_data_processing_immediate :
    decodeTableWord 32 0b0010_0010000_0_1000_0011_1111_11100110 = some (.andImm .cs false 8 3 15 0xe6) ∧
    decodeTableWord 32 0b0010_0010001_0_0000_1110_0101_00111101 = some (.eorImm .cs false 0 14 5 0x3d) ∧
    decodeTableWord 32 0b0000_0010010_1_0100_1110_1011_00110001 = some (.subImm .eq true 4 14 11 0x31) ∧
    decodeTableWord 32 0b0111_0010011_0_1100_0000_0110_10001001 = some (.rsbImm .vc false 12 0 6 0x89) ∧
    decodeTableWord 32 0b0011_0010100_0_1010_0110_0111_11101100 = some (.addImm .cc false 10 6 7 0xec) ∧
    decodeTableWord 32 0b1011_0010101_1_0000_1111_0001_10000100 = some (.adcImm .lt true 0 15 1 0x84) ∧
    decodeTableWord 32 0b0000_0010110_0_0000_0000_1000_01100111 = some (.sbcImm .eq false 0 0 8 0x67) ∧
    decodeTableWord 32 0b0110_0010111_0_1100_1011_1001_10001011 = some (.rscImm .vs false 12 11 9 0x8b) ∧
    decodeTableWord 32 0b0100_00110001_0101_0000_0011_10110000 = some (.tstImm .mi 5 0 3 0xb0) ∧
    decodeTableWord 32 0b0001_00110011_0101_0000_1010_10111101 = some (.teqImm .ne 5 0 10 0xbd) ∧
    decodeTableWord 32 0b1001_00110101_1011_0000_0111_00001010 = some (.cmpImm .ls 11 0 7 0xa) ∧
    decodeTableWord 32 0b0100_00110111_0011_0000_0111_00101001 = some (.cmnImm .mi 3 0 7 0x29) ∧
    decodeTableWord 32 0b1000_0011100_1_1101_0100_0111_00100000 = some (.orrImm .hi true 13 4 7 0x20) ∧
    decodeTableWord 32 0b0010_0011101_1_0000_1011_1101_00010110 = some (.movImm .cs true 0 11 13 0x16) ∧
    decodeTableWord 32 0b1101_0011110_1_1111_1010_1111_00100110 = some (.bicImm .le true 15 10 15 0x26) ∧
    decodeTableWord 32 0b0000_0011111_0_0000_1010_0000_01110011 = some (.mvnImm .eq false 0 10 0 0x73) := by
  decide

theorem test_decode_data_processing_shift_by_immediate :
    decodeTableWord 32 0b1110_0000000_0_1011_1100_01000_01_0_0001 = some (.andShiftImm .al false 11 12 0x8 .lsr 1) ∧
    decodeTableWord 32 0b1110_0000001_0_1011_1001_00101_10_0_1100 = some (.eorShiftImm .al false 11 9 0x5 .asr 12) ∧
    decodeTableWord 32 0b1110_0000010_1_1000_1011_01111_11_0_1010 = some (.subShiftImm .al true 8 11 0xf .ror 10) ∧
    decodeTableWord 32 0b1110_0000011_1_0000_1000_01001_01_0_1000 = some (.rsbShiftImm .al true 0 8 0x9 .lsr 8) ∧
    decodeTableWord 32 0b1110_0000100_1_1000_0011_11110_01_0_0010 = some (.addShiftImm .al true 8 3 0x1e .lsr 2) ∧
    decodeTableWord 32 0b1110_0000101_0_1000_0000_11110_10_0_0111 = some (.adcShiftImm .al false 8 0 0x1e .asr 7) ∧
    decodeTableWord 32 0b1110_0000110_1_0110_0100_00001_11_0_0011 = some (.sbcShiftImm .al true 6 4 0x1 .ror 3) ∧
    decodeTableWord 32 0b1110_0000111_1_1101_1101_10001_01_0_0001 = some (.rscShiftImm .al true 13 13 0x11 .lsr 1) ∧
    decodeTableWord 32 0b1110_00010001_0000_0000_00011_01_0_0011 = some (.tstShiftImm .al 0 0 0x3 .lsr 3) ∧
    decodeTableWord 32 0b1110_00010011_0000_0000_01000_01_0_0000 = some (.teqShiftImm .al 0 0 0x8 .lsr 0) ∧
    decodeTableWord 32 0b1110_00010101_1001_0000_01011_00_0_1011 = some (.cmpShiftImm .al 9 0 0xb .lsl 11) ∧
    decodeTableWord 32 0b1110_00010111_0011_0000_01100_01_0_1101 = some (.cmnShiftImm .al 3 0 0xc .lsr 13) ∧
    decodeTableWord 32 0b1110_0001100_0_0010_1101_11110_01_0_0001 = some (.orrShiftImm .al false 2 13 0x1e .lsr 1) ∧
    decodeTableWord 32 0b1110_0001101_0_0000_1001_10000_00_0_1110 = some (.movShiftImm .al false 0 9 0x10 .lsl 14) ∧
    decodeTableWord 32 0b1110_0001110_1_1111_0110_00010_11_0_1100 = some (.bicShiftImm .al true 15 6 0x2 .ror 12) ∧
    decodeTableWord 32 0b1110_0001111_0_0000_0100_10011_00_0_1110 = some (.mvnShiftImm .al false 0 4 0x13 .lsl 14) := by
  decide

theorem test_decode_data_processing_shift_by_register :
    decodeTableWord 32 0b1110_0000000_0_0000_0001_0101_0_01_1_0000 = some (.andShiftReg .al false 0 1 5 .lsr 0) ∧
    decodeTableWord 32 0b1110_0000001_1_0001_0000_1001_0_00_1_0000 = some (.eorShiftReg .al true 1 0 9 .lsl 0) ∧
    decodeTableWord 32 0b1110_0000010_0_1011_0000_0111_0_10_1_1111 = some (.subShiftReg .al false 11 0 7 .asr 15) ∧
    decodeTableWord 32 0b1110_0000011_0_0011_1001_1000_0_11_1_0001 = some (.rsbShiftReg .al false 3 9 8 .ror 1) ∧
    decodeTableWord 32 0b1110_0000100_1_1100_0110_0101_0_01_1_0111 = some (.addShiftReg .al true 12 6 5 .lsr 7) ∧
    decodeTableWord 32 0b1110_0000101_0_0110_1110_0010_0_10_1_0110 = some (.adcShiftReg .al false 6 14 2 .asr 6) ∧
    decodeTableWord 32 0b1110_0000110_0_1111_0101_1110_0_00_1_1000 = some (.sbcShiftReg .al false 15 5 14 .lsl 8) ∧
    decodeTableWord 32 0b1110_0000111_0_0110_0110_1101_0_11_1_1001 = some (.rscShiftReg .al false 6 6 13 .ror 9) ∧
    decodeTableWord 32 0b1110_00010001_0011_0000_0010_0_00_1_1011 = some (.tstShiftReg .al 3 0 2 .lsl 11) ∧
    decodeTableWord 32 0b1110_00010011_1100_0000_0010_0_01_1_0100 = some (.teqShiftReg .al 12 0 2 .lsr 4) ∧
    decodeTableWord 32 0b1110_00010101_0111_0000_0101_0_01_1_0110 = some (.cmpShiftReg .al 7 0 5 .lsr 6) ∧
    decodeTableWord 32 0b1110_00010111_0001_0000_1100_0_10_1_0010 = some (.cmnShiftReg .al 1 0 12 .asr 2) ∧
    decodeTableWord 32 0b1110_0001100_0_0000_1110_1010_0_00_1_0000 = some (.orrShiftReg .al false 0 14 10 .lsl 0) ∧
    decodeTableWord 32 0b1110_0001101_1_0000_1111_1111_0_11_1_0001 = some (.movShiftReg .al true 0 15 15 .ror 1) ∧
    decodeTableWord 32 0b1110_0001110_0_1001_0000_0100_0_01_1_0111 = some (.bicShiftReg .al false 9 0 4 .lsr 7) ∧
    decodeTableWord 32 0b1110_0001111_0_0000_0001_1100_0_00_1_1010 = some (.mvnShiftReg .al false 0 1 12 .lsl 10) := by
  decide

theorem test_decode_multiplies :
    decodeTableWord 32 0b0011_0000000_1_1011_0000_0000_1001_1011 = some (.mul .cc true 11 0 0 11) ∧
    decodeTableWord 32 0b1110_0000001_1_1100_0011_1001_1001_1010 = some (.mla .al true 12 3 9 10) ∧
    decodeTableWord 32 0b1110_0000100_1_1010_1000_1010_1001_1001 = some (.umull .al true 10 8 10 9) ∧
    decodeTableWord 32 0b1100_0000101_0_0110_1100_1001_1001_0110 = some (.umlal .gt false 6 12 9 6) ∧
    decodeTableWord 32 0b1110_0000110_1_0100_1001_0110_1001_1100 = some (.smull .al true 4 9 6 12) ∧
    decodeTableWord 32 0b1110_0000111_0_1011_0111_0010_1001_0110 = some (.smlal .al false 11 7 2 6) ∧
    decodeTableWord 32 0b0000_00010110_1111_0110_1111_0001_1010 = some (.clz .eq 15 6 15 10) := by
  decide

theorem test_decode_swap_and_status :
    decodeTableWord 32 0b1110_00010000_1001_1100_0000_1001_1110 = some (.swp .al 9 12 0 14) ∧
    decodeTableWord 32 0b1110_00010100_1011_1010_0000_1001_0101 = some (.swpb .al 11 10 0 5) ∧
    decodeTableWord 32 0b0100_00010_1_00_1111_0010_0000_0000_0000 = some (.mrs .mi true 15 2 0 0) ∧
    decodeTableWord 32 0b1110_00010_0_10_1001_1111_0000_0000_1100 = some (.msrReg .al false 9 15 0 12) ∧
    decodeTableWord 32 0b1110_00110_1_10_1011_1111_0111_10001001 = some (.msrImm .al true 11 15 7 0x89) := by
  decide

theorem test_decode_branches_and_traps :
    decodeTableWord 32 0b1010_00010010_111111111111_0001_1000 = some (.bx .ge 0xfff 8) ∧
    decodeTableWord 32 0b1110_00010010_111111111111_0011_1000 = some (.blxReg .al 0xfff 8) ∧
    decodeTableWord 32 0b1110_00010010_011000101011_0111_1111 = some (.bkpt .al 0x62b 15) ∧
    decodeTableWord 32 0b1110_1010_100011110010010101000110 = some (.b .al 0x8f2546) ∧
    decodeTableWord 32 0b1110_1011_001111111011001001011001 = some (.bl .al 0x3fb259) ∧
    decodeTableWord 32 0b1111101_0_010011000110011011100100 = some (.blxImm false 0x4c66e4) ∧
    decodeTableWord 32 0b1110_1111_001100000100011010111101 = some (.swi .al 0x3046bd) := by
  decide

theorem test_decode_halfword_transfers :
    decodeTableWord 32 0b0101_000_1_1_1_1_0_1101_1111_1100_1011_0100 = some (.strhImm .pl true true true 13 15 12 4) ∧
    decodeTableWord 32 0b1110_000_0_0_0_0_0_1100_0011_0000_1011_0110 = some (.strhReg .al false false false 12 3 0 6) ∧
    decodeTableWord 32 0b1110_000_1_1_1_1_1_1100_0001_0011_1011_1010 = some (.ldrhImm .al true true true 12 1 3 10) ∧
    decodeTableWord 32 0b0011_000_1_0_0_0_1_0010_0101_0000_1011_1110 = some (.ldrhReg .cc true false false 2 5 0 14) ∧
    decodeTableWord 32 0b1110_000_0_1_1_0_1_0100_1111_0011_1101_1100 = some (.ldrsbImm .al false true false 4 15 3 12) ∧
    decodeTableWord 32 0b1110_000_1_0_0_1_1_0101_1101_0000_1101_0101 = some (.ldrsbReg .al true false true 5 13 0 5) ∧
    decodeTableWord 32 0b1001_000_0_1_1_1_1_0001_0011_1110_1111_0111 = some (.ldrshImm .ls false true true 1 3 14 7) ∧
    decodeTableWord 32 0b1110_000_1_1_0_1_1_1010_0101_0000_1111_1101 = some (.ldrshReg .al true true true 10 5 0 13) := by
  decide

theorem test_decode_word_transfers :
    decodeTableWord 32 0b1110_0101_1_0_1_1_0111_0111_101111010001 = some (.ldrImm .al true true 7 7 0xbd1) ∧
    decodeTableWord 32 0b0010_0100_1_001_1001_1000_101011010001 = some (.ldrImmPost .cs true 9 8 0xad1) ∧
    decodeTableWord 32 0b1110_0100_0_011_1110_0100_101010010011 = some (.ldrtImm .al false 14 4 0xa93) ∧
    decodeTableWord 32 0b1110_0111_1_0_0_1_1010_0111_01000_10_0_0111 = some (.ldrReg .al true false 10 7 0x8 .asr 7) ∧
    decodeTableWord 32 0b0010_0110_0_001_0101_0001_10010_11_0_1100 = some (.ldrRegPost .cs false 5 1 0x12 .ror 12) ∧
    decodeTableWord 32 0b1110_0110_1_011_0101_1011_10000_11_0_0001 = some (.ldrtReg .al true 5 11 0x10 .ror 1) ∧
    decodeTableWord 32 0b1110_0101_1_0_0_0_1110_1010_111010000001 = some (.strImm .al true false 14 10 0xe81) ∧
    decodeTableWord 32 0b0000_0100_0_000_1000_1010_111110011111 = some (.strImmPost .eq false 8 10 0xf9f) ∧
    decodeTableWord 32 0b1110_0100_1_010_0101_1011_011010101100 = some (.strtImm .al true 5 11 0x6ac) ∧
    decodeTableWord 32 0b1110_0111_0_0_0_0_1001_0110_01100_01_0_1011 = some (.strReg .al false false 9 6 0xc .lsr 11) ∧
    decodeTableWord 32 0b0001_0110_0_000_1111_1000_11001_01_0_0010 = some (.strRegPost .ne false 15 8 0x19 .lsr 2) ∧
    decodeTableWord 32 0b1110_0110_1_010_0001_1100_00111_11_0_1111 = some (.strtReg .al true 1 12 0x7 .ror 15) := by
  decide

theorem test_decode_byte_transfers :
    decodeTableWord 32 0b1110_0101_0_1_0_1_0111_1110_010110100111 = some (.ldrbImm .al false false 7 14 0x5a7) ∧
    decodeTableWord 32 0b0001_0100_1_101_0111_1001_110001011010 = some (.ldrbImmPost .ne true 7 9 0xc5a) ∧
    decodeTableWord 32 0b1110_0100_1_111_0100_0101_010010010100 = some (.ldrbtImm .al true 4 5 0x494) ∧
    decodeTableWord 32 0b1110_0111_0_1_1_1_1110_0000_00011_00_0_1110 = some (.ldrbReg .al false true 14 0 0x3 .lsl 14) ∧
    decodeTableWord 32 0b0111_0110_1_101_1001_1001_10111_10_0_0110 = some (.ldrbRegPost .vc true 9 9 0x17 .asr 6) ∧
    decodeTableWord 32 0b1110_0110_1_111_1110_1000_10100_00_0_1011 = some (.ldrbtReg .al true 14 8 0x14 .lsl 11) ∧
    decodeTableWord 32 0b1110_0101_0_1_0_0_0111_0110_100101100010 = some (.strbImm .al false false 7 6 0x962) ∧
    decodeTableWord 32 0b1100_0100_1_100_1010_0110_010110001001 = some (.strbImmPost .gt true 10 6 0x589) ∧
    decodeTableWord 32 0b1110_0100_0_110_1111_1011_110000101000 = some (.strbtImm .al false 15 11 0xc28) ∧
    decodeTableWord 32 0b1110_0111_0_1_0_0_1101_0011_10010_00_0_1111 = some (.strbReg .al false false 13 3 0x12 .lsl 15) ∧
    decodeTableWord 32 0b0010_0110_1_100_1011_0010_00111_01_0_0001 = some (.strbRegPost .cs true 11 2 0x7 .lsr 1) ∧
    decodeTableWord 32 0b1110_0110_1_110_1111_0110_00000_01_0_0100 = some (.strbtReg .al true 15 6 0x0 .lsr 4) := by
  decide

theorem test_decode_multiple_transfers :
    decodeTableWord 32 0b1110_100_1_1_0_1_1_1001_0000011101001000 = some (.ldm .al true true true 9 0x748) ∧
    decodeTableWord 32 0b1000_100_1_1_1_1_1_0101_0_000011110001010 = some (.ldmUser .hi true true true 5 0x78a) ∧
    decodeTableWord 32 0b1110_100_1_0_1_1_1_1011_1_110001011111011 = some (.ldmReturn .al true false true 11 0x62fb) ∧
    decodeTableWord 32 0b1110_100_1_0_0_1_0_0000_0011011011110110 = some (.stm .al true false true 0 0x36f6) ∧
    decodeTableWord 32 0b1011_100_1_1_1_0_0_1110_1101100100111110 = some (.stmUser .lt true true false 14 0xd93e) := by
  decide

theorem test_decode_coprocessor :
    decodeTableWord 32 0b1110_1101_0_0_1_1_1101_1000_0100_10001011 = some (.ldcOffset .al false false true 13 8 4 0x8b) ∧
    decodeTableWord 32 0b1110_11001_1_1_1_0011_0111_1011_01010001 = some (.ldcPostUp .al true true 3 7 11 0x51) ∧
    decodeTableWord 32 0b0100_11000_0_11_0010_0001_1111_00110010 = some (.ldcPostDown .mi false 2 1 15 0x32) ∧
    decodeTableWord 32 0b1110_1101_1_0_0_0_1100_1101_1010_01111100 = some (.stcOffset .al true false false 12 13 10 0x7c) ∧
    decodeTableWord 32 0b1110_11001_1_1_0_0100_0111_1110_00111110 = some (.stcPostUp .al true true 4 7 14 0x3e) ∧
    decodeTableWord 32 0b0110_11000_0_10_1110_0110_1110_10010011 = some (.stcPostDown .vs false 14 6 14 0x93) ∧
    decodeTableWord 32 0b1110_1110_0101_0010_1101_1100_011_0_0100 = some (.cdp .al 5 2 13 12 3 4) ∧
    decodeTableWord 32 0b1110_1110_110_0_0100_0101_1110_110_1_0010 = some (.mcr .al 6 4 5 14 6 2) ∧
    decodeTableWord 32 0b0000_1110_101_1_0100_1011_0110_110_1_1001 = some (.mrc .eq 5 4 11 6 6 9) := by
  decide

/-- The words of the examples of the rules of spec/. -/
theorem test_decode_examples_a :
    decodeTableWord 32 0xEAFFFFFE = some (.b .al 0xFFFFFE) ∧
    decodeTableWord 32 0xEB000002 = some (.bl .al 2) ∧
    decodeTableWord 32 0xE12FFF1E = some (.bx .al 0xFFF 14) ∧
    decodeTableWord 32 0xE12FFF32 = some (.blxReg .al 0xFFF 2) ∧
    decodeTableWord 32 0xEF123456 = some (.swi .al 0x123456) ∧
    decodeTableWord 32 0xE1200070 = some (.bkpt .al 0 0) ∧
    decodeTableWord 32 0x120880FF = some (.andImm .ne false 8 8 0 0xFF) ∧
    decodeTableWord 32 0xE0210002 = some (.eorShiftImm .al false 1 0 0 .lsl 2) ∧
    decodeTableWord 32 0xE2E11000 = some (.rscImm .al false 1 1 0 0) ∧
    decodeTableWord 32 0xE16F1F10 = some (.clz .al 15 1 15 0) ∧
    decodeTableWord 32 0xE0810392 = some (.umull .al false 1 0 3 2) ∧
    decodeTableWord 32 0xE4C12001 = some (.strbImmPost .al true 1 2 1) ∧
    decodeTableWord 32 0xE4B10004 = some (.ldrtImm .al true 1 0 4) := by
  decide

/-- The words of the examples of the rules of spec/. -/
theorem test_decode_examples_b :
    decodeTableWord 32 0xE79CC108 = some (.ldrReg .al true false 12 12 2 .lsl 8) ∧
    decodeTableWord 32 0xE1C100B0 = some (.strhImm .al true true false 1 0 0 0) ∧
    decodeTableWord 32 0xE1D060D0 = some (.ldrsbImm .al true true false 0 6 0 0) ∧
    decodeTableWord 32 0xE09030B1 = some (.ldrhReg .al false true false 0 3 0 1) ∧
    decodeTableWord 32 0xE8BD0007 = some (.ldm .al false true true 13 7) ∧
    decodeTableWord 32 0xE8D06000 = some (.ldmUser .al false true false 0 0x6000) ∧
    decodeTableWord 32 0xE8C06000 = some (.stmUser .al false true false 0 0x6000) ∧
    decodeTableWord 32 0xE1020091 = some (.swp .al 2 0 0 1) ∧
    decodeTableWord 32 0xE169F000 = some (.msrReg .al true 9 15 0 0) ∧
    decodeTableWord 32 0xE328F20F = some (.msrImm .al false 8 15 2 15) ∧
    decodeTableWord 32 0xED932102 = some (.ldcOffset .al true false false 3 2 1 2) ∧
    decodeTableWord 32 0xED832102 = some (.stcOffset .al true false false 3 2 1 2) ∧
    decodeTableWord 32 0xEE110F10 = some (.mrc .al 0 1 0 15 0 0) := by
  decide

/-- Words of each undefined area of R360 are refused by name, and so are short inputs. -/
theorem test_decode_refuses :
    decode 0xE7F000F0 = .error .undefinedSpace ∧ decode 0xE0400090 = .error .arithmeticSpace ∧
    decode 0xE1000070 = .error .controlSpace ∧ decode 0xE00000D0 = .error .loadStoreSpace ∧
    decode 0xEC000000 = .error .coprocessorSpace ∧ decode 0xF0000000 = .error .unconditionalSpace ∧
    decodeTableWord 16 0xE7F000F0 = none := ⟨rfl, rfl, rfl, rfl, rfl, rfl, rfl⟩

/-! ### One step: the vectors of spec/95_test_vectors.md, by their numbers -/

theorem test_v3_addShiftImm :
    seen (run 0xE0910002 (st 0x10 [(1, 0x80000000), (2, 0x80000000)] [])) (fun t => (t.reg 0, t.cpsr, t.pc)) = some (0x0, 0x70000010, 0x8004) := by
  decide

theorem test_v5_addShiftImm :
    seen (run 0xE0810182 (st 0x10 [(1, 0x100), (2, 0x30000001)] [])) (fun t => (t.reg 0, t.cpsr, t.pc)) = some (0x80000108, 0x10, 0x8004) := by
  decide

theorem test_v4_addImm :
    seen (run 0xE2810005 (st 0xf0000010 [(1, 0xfffffffe)] [])) (fun t => (t.reg 0, t.cpsr, t.pc)) = some (0x3, 0xf0000010, 0x8004) := by
  decide

theorem test_v49_addImm :
    seen (run 0xE28F0000 (st 0x10 [] [])) (fun t => (t.reg 0, t.reg 0, t.cpsr, t.pc)) = some (0x8008, 0x8008, 0x10, 0x8004) := by
  decide

theorem test_v6_addShiftReg :
    seen (run 0xE0810312 (st 0x10 [(1, 0x100), (2, 3), (3, 0x104)] [])) (fun t => (t.reg 0, t.cpsr, t.pc)) = some (0x130, 0x10, 0x8004) := by
  decide

theorem test_v8_subShiftImm :
    seen (run 0xE0510002 (st 0x10 [(1, 0), (2, 1)] [])) (fun t => (t.reg 0, t.cpsr, t.pc)) = some (0xffffffff, 0x80000010, 0x8004) := by
  decide

theorem test_v9_subShiftImm :
    seen (run 0xE0510002 (st 0x10 [(1, 0x80000000), (2, 1)] [])) (fun t => (t.reg 0, t.cpsr, t.pc)) = some (0x7fffffff, 0x30000010, 0x8004) := by
  decide

theorem test_v10_rsbImm :
    seen (run 0xE2710000 (st 0x10 [(1, 1)] [])) (fun t => (t.reg 0, t.cpsr, t.pc)) = some (0xffffffff, 0x80000010, 0x8004) := by
  decide

theorem test_v11_rsbImm :
    seen (run 0xE2710000 (st 0x10 [(1, 0x80000000)] [])) (fun t => (t.reg 0, t.cpsr, t.pc)) = some (0x80000000, 0x90000010, 0x8004) := by
  decide

theorem test_v12_adcShiftImm :
    seen (run 0xE0B10002 (st 0x20000010 [(1, 0xffffffff), (2, 0)] [])) (fun t => (t.reg 0, t.cpsr, t.pc)) = some (0x0, 0x60000010, 0x8004) := by
  decide

theorem test_v13_adcShiftImm :
    seen (run 0xE0B10002 (st 0x20000010 [(1, 0x7fffffff), (2, 0)] [])) (fun t => (t.reg 0, t.cpsr, t.pc)) = some (0x80000000, 0x90000010, 0x8004) := by
  decide

theorem test_v14_sbcShiftImm :
    seen (run 0xE0D10002 (st 0x10 [(1, 5), (2, 3)] [])) (fun t => (t.reg 0, t.cpsr, t.pc)) = some (0x1, 0x20000010, 0x8004) := by
  decide

theorem test_v16_sbcShiftImm :
    seen (run 0xE0D10002 (st 0x20000010 [(1, 5), (2, 5)] [])) (fun t => (t.reg 0, t.cpsr, t.pc)) = some (0x0, 0x60000010, 0x8004) := by
  decide

theorem test_v17_rscShiftImm :
    seen (run 0xE0F10002 (st 0x10 [(1, 3), (2, 5)] [])) (fun t => (t.reg 0, t.cpsr, t.pc)) = some (0x1, 0x20000010, 0x8004) := by
  decide

theorem test_v18_rscShiftImm :
    seen (run 0xE0F10002 (st 0x20000010 [(1, 3), (2, 5)] [])) (fun t => (t.reg 0, t.cpsr, t.pc)) = some (0x2, 0x20000010, 0x8004) := by
  decide

theorem test_v19_andShiftImm :
    seen (run 0xE0110082 (st 0x10 [(1, 0xffffffff), (2, 0x80000001)] [])) (fun t => (t.reg 0, t.cpsr, t.pc)) = some (0x2, 0x20000010, 0x8004) := by
  decide

theorem test_v20_eorShiftImm :
    seen (run 0xE0310002 (st 0x30000010 [(1, 0xff00ff00), (2, 0xff00ff00)] [])) (fun t => (t.reg 0, t.cpsr, t.pc)) = some (0x0, 0x70000010, 0x8004) := by
  decide

theorem test_v21_orrImm :
    seen (run 0xE3910102 (st 0x10 [(1, 1)] [])) (fun t => (t.reg 0, t.cpsr, t.pc)) = some (0x80000001, 0xa0000010, 0x8004) := by
  decide

theorem test_v22_bicImm :
    seen (run 0xE3D100FF (st 0x20000010 [(1, 0xff)] [])) (fun t => (t.reg 0, t.cpsr, t.pc)) = some (0x0, 0x60000010, 0x8004) := by
  decide

theorem test_v23_mvnShiftImm :
    seen (run 0xE1F00001 (st 0x10 [(1, 0xffffffff)] [])) (fun t => (t.reg 0, t.cpsr, t.pc)) = some (0x0, 0x40000010, 0x8004) := by
  decide

theorem test_v24_mvnImm :
    seen (run 0xE3E00000 (st 0x10 [] [])) (fun t => (t.reg 0, t.cpsr, t.pc)) = some (0xffffffff, 0x10, 0x8004) := by
  decide

theorem test_v25_movImm :
    seen (run 0xE3B004FF (st 0x10 [] [])) (fun t => (t.reg 0, t.cpsr, t.pc)) = some (0xff000000, 0xa0000010, 0x8004) := by
  decide

theorem test_v29_movShiftImm :
    seen (run 0xE1B00061 (st 0x20000010 [(1, 1)] [])) (fun t => (t.reg 0, t.cpsr, t.pc)) = some (0x80000000, 0xa0000010, 0x8004) := by
  decide

theorem test_v52_movShiftImm :
    why (run 0xE1A0F00E (st 0x10 [(14, 0x9002)] [])) = some .misalignedPcResult := by
  decide

theorem test_v35_movShiftReg :
    seen (run 0xE1B00211 (st 0x20000010 [(1, 3), (2, 0x21)] [])) (fun t => (t.reg 0, t.cpsr, t.pc)) = some (0x0, 0x40000010, 0x8004) := by
  decide

theorem test_v40_movShiftReg :
    seen (run 0xE1B00271 (st 0x10 [(1, 0x80000001), (2, 0x21)] [])) (fun t => (t.reg 0, t.cpsr, t.pc)) = some (0xc0000000, 0xa0000010, 0x8004) := by
  decide

theorem test_v41_tstImm :
    seen (run 0xE3180020 (st 0x20000010 [(8, 0x60000010)] [])) (fun t => (t.cpsr, t.pc)) = some (0x60000010, 0x8004) := by
  decide

theorem test_v42_tstImm :
    seen (run 0xE3180020 (st 0x10 [(8, 0x60000030)] [])) (fun t => (t.cpsr, t.pc)) = some (0x10, 0x8004) := by
  decide

theorem test_v43_teqShiftImm :
    seen (run 0xE1310002 (st 0x10 [(1, 0x80000000), (2, 1)] [])) (fun t => (t.cpsr, t.pc)) = some (0x80000010, 0x8004) := by
  decide

theorem test_v44_cmpImm :
    seen (run 0xE3500005 (st 0x10 [(0, 4)] [])) (fun t => (t.cpsr, t.pc)) = some (0x80000010, 0x8004) := by
  decide

theorem test_v47_cmpImm :
    seen (run 0xE3500005 (st 0x10 [(0, 0x80000000)] [])) (fun t => (t.cpsr, t.pc)) = some (0x30000010, 0x8004) := by
  decide

theorem test_v48_cmnImm :
    seen (run 0xE3700001 (st 0x10 [(0, 0xffffffff)] [])) (fun t => (t.cpsr, t.pc)) = some (0x60000010, 0x8004) := by
  decide

theorem test_v58_mul :
    seen (run 0xE0100291 (st 0x10000010 [(1, 0xffffffff), (2, 2)] [])) (fun t => (t.reg 0, t.pc)) = some (0xfffffffe, 0x8004) := by
  decide

theorem test_v59_mla :
    seen (run 0xE02AA190 (st 0x10 [(0, 3), (1, 4), (10, 5)] [])) (fun t => (t.reg 10, t.cpsr, t.pc)) = some (0x11, 0x10, 0x8004) := by
  decide

theorem test_v60_umull :
    seen (run 0xE0810392 (st 0x10 [(2, 0xffffffff), (3, 0xffffffff)] [])) (fun t => (t.reg 1, t.reg 0, t.cpsr, t.pc)) = some (0xfffffffe, 0x1, 0x10, 0x8004) := by
  decide

theorem test_v61d_umull :
    seen (run 0xE0910392 (st 0x10 [(2, 0), (3, 5)] [])) (fun t => (t.reg 1, t.reg 0, t.pc)) = some (0x0, 0x0, 0x8004) := by
  decide

theorem test_v61_smull :
    seen (run 0xE0C10392 (st 0x10 [(2, 0xffffffff), (3, 0xffffffff)] [])) (fun t => (t.reg 1, t.reg 0, t.cpsr, t.pc)) = some (0x0, 0x1, 0x10, 0x8004) := by
  decide

theorem test_v61a_smull :
    seen (run 0xE0D10392 (st 0x10 [(2, 0xffffffff), (3, 2)] [])) (fun t => (t.reg 1, t.reg 0, t.pc)) = some (0xffffffff, 0xfffffffe, 0x8004) := by
  decide

theorem test_v61b_umlal :
    seen (run 0xE0A10392 (st 0x10 [(1, 0), (0, 0xffffffff), (2, 1), (3, 1)] [])) (fun t => (t.reg 1, t.reg 0, t.cpsr, t.pc)) = some (0x1, 0x0, 0x10, 0x8004) := by
  decide

theorem test_v61c_smlal :
    seen (run 0xE0E10392 (st 0x10 [(1, 0), (0, 1), (2, 0xffffffff), (3, 1)] [])) (fun t => (t.reg 1, t.reg 0, t.cpsr, t.pc)) = some (0x0, 0x0, 0x10, 0x8004) := by
  decide

theorem test_v63_clz :
    seen (run 0xE16F1F10 (v5 (st 0x10 [(0, 0x100)] []))) (fun t => t.reg 1) = some 0x17 := by
  decide

theorem test_v64_clz :
    seen (run 0xE16F1F10 (v5 (st 0x10 [(0, 0)] []))) (fun t => t.reg 1) = some 0x20 := by
  decide

theorem test_v71_ldrImm :
    seen (run 0xE5903000 (st 0x10 [(0, 0x145)] [(324, 0x73617246), (328, 0x11223344)])) (fun t => (t.reg 3, t.pc)) = some (0x46736172, 0x8004) := by
  decide

theorem test_v87_ldrImm :
    seen (run 0xE59FF018 (v5 (st 0x10 [] [(32800, 0x9001)]))) (fun t => (t.pc, t.cpsr)) = some (0x9000, 0x30) := by
  decide

theorem test_v74_ldrImmPost :
    seen (run 0xE4980004 (st 0x10 [(8, 0x144)] [(324, 0x73617246), (328, 0x11223344)])) (fun t => (t.reg 0, t.reg 8, t.pc)) = some (0x73617246, 0x148, 0x8004) := by
  decide

theorem test_v90_ldrImmPost :
    seen (run 0xE4910004 (withCfg (fun c => { c with aborts := [{ above 0x40000000 with privileged := false }] }) (st 0x13 [(1, 0x40000000), (0, 0x77)] [(1073741824, 0x55)]))) (fun t => (t.reg 0, t.reg 1)) = some (0x55, 0x40000004) := by
  decide

theorem test_v77_ldrReg :
    seen (run 0xE79CC108 (st 0x10 [(12, 0x140), (8, 1)] [(324, 0x73617246), (328, 0x11223344)])) (fun t => (t.reg 12, t.pc)) = some (0x73617246, 0x8004) := by
  decide

theorem test_v78_ldrReg :
    seen (run 0xE71100A2 (st 0x10 [(1, 0x14c), (2, 8)] [(324, 0x73617246), (328, 0x11223344)])) (fun t => (t.reg 0, t.pc)) = some (0x11223344, 0x8004) := by
  decide

theorem test_v80_ldrbImm :
    seen (run 0xE5D05000 (st 0x10 [(0, 0x147)] [(324, 0x73617246), (328, 0x11223344)])) (fun t => (t.reg 5, t.pc)) = some (0x73, 0x8004) := by
  decide

theorem test_v81_ldrbImmPost :
    seen (run 0xE4D02001 (st 0x10 [(0, 0x144)] [(324, 0x73617246), (328, 0x11223344)])) (fun t => (t.reg 2, t.reg 0, t.pc)) = some (0x46, 0x145, 0x8004) := by
  decide

theorem test_v83_strImm :
    seen (run 0xE5812000 (st 0x10 [(1, 0x40000005), (2, 0x73617246)] [])) (fun t => (t.mem.readWord 0x40000000, t.mem.readWord 0x40000004)) = some (0x0, 0x73617246) := by
  decide

theorem test_v85b_strImm :
    seen (run 0xE581F000 (withCfg (fun c => { c with pcStoreOffset := .twelve }) (st 0x10 [(1, 0x40000000)] []))) (fun t => t.mem.readWord 0x40000000) = some 0x800c := by
  decide

theorem test_v84_strbImmPost :
    seen (run 0xE4C12001 (st 0x10 [(1, 0x40000001), (2, 0x12345678)] [(1073741824, 0xaaaaaaaa)])) (fun t => (t.mem.readWord 0x40000000, t.reg 1)) = some (0xaaaa78aa, 0x40000002) := by
  decide

theorem test_v88u_strbImmPost :
    seen (run 0xE4C12001 (withCfg (fun c => { c with abortModel := .baseUpdated, aborts := [above 0x80000000] }) (st 0x10 [(1, 0x80000000)] []))) (fun t => (t.getPhys (.abt 1), t.spsr.abt, t.cpsr, t.pc, t.reg 1)) = some (0x8008, 0x10, 0x97, 0x10, 0x80000001) := by
  decide

theorem test_v89_ldrtImm :
    seen (run 0xE4B10004 (withCfg (fun c => { c with aborts := [{ above 0x40000000 with privileged := false }] }) (st 0x13 [(1, 0x40000000), (0, 0x77)] [(1073741824, 0x55)]))) (fun t => (t.pc, t.cpsr, t.reg 0)) = some (0x10, 0x97, 0x77) := by
  decide

theorem test_v94_ldrhImm :
    why (run 0xE1D030B0 (st 0x10 [(0, 0x16d)] [(364, 0x73619296)])) = some .oddHalfword := by
  decide

theorem test_v95_ldrhImm :
    seen (run 0xE1D030B2 (st 0x10 [(0, 0x16c)] [(364, 0x73619296)])) (fun t => t.reg 3) = some 0x7361 := by
  decide

theorem test_v92_ldrshImm :
    seen (run 0xE1D040F0 (st 0x10 [(0, 0x16c)] [(364, 0x73619296)])) (fun t => t.reg 4) = some 0xffff9296 := by
  decide

theorem test_v94a_ldrshImm :
    why (run 0xE1D040F0 (st 0x10 [(0, 0x16d)] [(364, 0x73619296)])) = some .oddHalfword := by
  decide

theorem test_v93a_ldrsbImm :
    seen (run 0xE1D060D0 (st 0x10 [(0, 0x16d)] [(364, 0x73619296)])) (fun t => t.reg 6) = some 0xffffff92 := by
  decide

theorem test_v97_ldrhReg :
    seen (run 0xE09030B1 (st 0x10 [(0, 0x16c), (1, 2)] [(364, 0x73619296)])) (fun t => (t.reg 3, t.reg 0)) = some (0x9296, 0x16e) := by
  decide

theorem test_v97a_ldrhReg :
    seen (run 0xE13030B1 (st 0x10 [(0, 0x170), (1, 2)] [(364, 0x73619296)])) (fun t => (t.reg 3, t.reg 0)) = some (0x7361, 0x16e) := by
  decide

theorem test_v98_strhImm :
    seen (run 0xE1C100B0 (st 0x10 [(0, 0x12345678), (1, 0x40000002)] [(1073741824, 0xaaaaaaaa)])) (fun t => t.mem.readWord 0x40000000) = some 0x5678aaaa := by
  decide

theorem test_v98a_strhImm :
    seen (run 0xE1E10FBF (st 0x10 [(0, 0xbeef), (1, 0x40000001)] [])) (fun t => (t.mem.readWord 0x40000100, t.reg 1)) = some (0xbeef, 0x40000100) := by
  decide

theorem test_v99e_stm :
    seen (run 0xE9280007 (st 0x10 [(0, 0xa0), (1, 0xa1), (2, 0xa2), (8, 0x40000100)] [])) (fun t => (t.mem.readWord 0x400000f4, t.mem.readWord 0x400000f8, t.mem.readWord 0x400000fc, t.reg 8)) = some (0xa0, 0xa1, 0xa2, 0x400000f4) := by
  decide

theorem test_v100u_stm :
    seen (run 0xE82800FF (withCfg (fun _ => { Config.lpc2148 0x7FC00000 with abortModel := .baseUpdated }) (st 0x10 [(0, 0x100), (1, 0x101), (2, 0x102), (3, 0x103), (4, 0x104), (5, 0x105), (6, 0x106), (7, 0x107), (8, 0x7fd00010)] []))) (fun t => (t.mem.readWord 0x7fd00000, t.mem.readWord 0x7fd00004, t.mem.readWord 0x7fd00008, t.mem.readWord 0x7fd0000c, t.mem.readWord 0x7fd00010, t.mem.readWord 0x7fcffff4, t.mem.readWord 0x7fcffff8, t.mem.readWord 0x7fcffffc, t.getPhys (.abt 1), t.pc, t.reg 8)) = some (0x103, 0x104, 0x105, 0x106, 0x107, 0x0, 0x0, 0x0, 0x8008, 0x10, 0x7fcffff0) := by
  decide

theorem test_v99g_ldm :
    seen (run 0xE8B08002 (st 0x10 [(0, 0x40000000)] [(1073741824, 0x11), (1073741828, 0x9003)])) (fun t => (t.reg 1, t.reg 0, t.pc)) = some (0x11, 0x40000008, 0x9000) := by
  decide

theorem test_v101r_ldm :
    seen (run 0xE8B0801E (withCfg (fun c => { c with abortModel := .baseRestored, aborts := [above 0x40000008] }) (st 0x10 [(0, 0x40000000), (1, 1), (2, 2), (3, 3), (4, 4)] [(1073741824, 0xd0), (1073741828, 0xd1)]))) (fun t => (t.reg 1, t.reg 2, t.getPhys (.abt 1), t.pc, t.cpsr, t.reg 0)) = some (0xd0, 0xd1, 0x8008, 0x10, 0x97, 0x40000000) := by
  decide

theorem test_v99i_ldmReturn :
    seen (run 0xE8FD8000 (withSpsr (.supervisor) 0x80000010 (st 0x60000093 [(13, 0x40000ffc)] [(1073745916, 0x8124)]))) (fun t => (t.pc, t.cpsr, t.getPhys (.svc 0))) = some (0x8124, 0x80000010, 0x40001000) := by
  decide

theorem test_v99j_stmUser :
    seen (run 0xE8C06000 (((((st 0xd3 [(0, 0x40000000)] []).setPhys (.usr 13) 0x1111).setPhys (.usr 14) 0x2222).setReg 13 0x3333).setReg 14 0x4444)) (fun t => (t.mem.readWord 0x40000000, t.mem.readWord 0x40000004)) = some (0x1111, 0x2222) := by
  decide

theorem test_v99k_ldmUser :
    seen (run 0xE8D06000 (((((st 0xd3 [(0, 0x40000000)] [(1073741824, 0xaaaa), (1073741828, 0xbbbb)]).setPhys (.usr 13) 0x1111).setPhys (.usr 14) 0x2222).setReg 13 0x3333).setReg 14 0x4444)) (fun t => (t.getPhys (.usr 13), t.getPhys (.usr 14), t.reg 13, t.reg 14)) = some (0xaaaa, 0xbbbb, 0x3333, 0x4444) := by
  decide

theorem test_v110_swp :
    seen (run 0xE1020091 (st 0x10 [(1, 0x11111111), (2, 0x40000000)] [(1073741824, 0x22222222)])) (fun t => (t.reg 0, t.mem.readWord 0x40000000)) = some (0x22222222, 0x11111111) := by
  decide

theorem test_v111_swp :
    seen (run 0xE1020091 (st 0x10 [(1, 0x11111111), (2, 0x40000001)] [(1073741824, 0x22222233)])) (fun t => (t.reg 0, t.mem.readWord 0x40000000)) = some (0x33222222, 0x11111111) := by
  decide

theorem test_v112_swpb :
    seen (run 0xE1401091 (st 0x10 [(1, 0x1ff), (0, 0x40000002)] [(1073741824, 0x44332211)])) (fun t => (t.reg 1, t.mem.readWord 0x40000000)) = some (0x33, 0x44ff2211) := by
  decide

theorem test_v113_mrs :
    seen (run 0xE10F0000 (st 0x60000010 [] [])) (fun t => t.reg 0) = some 0x60000010 := by
  decide

theorem test_v114_mrs :
    seen (run 0xE14F8000 (withSpsr (.supervisor) 0x80000010 (st 0x600000d3 [] []))) (fun t => t.reg 8) = some 0x80000010 := by
  decide

theorem test_v118_msrReg :
    seen (run 0xE129F000 (st 0x60000010 [(0, 0x900000df)] [])) (fun t => t.cpsr) = some 0x90000010 := by
  decide

theorem test_v122_msrReg :
    seen (run 0xE169F000 (withSpsr (.supervisor) 0x10 (st 0xd3 [(0, 0xa00000ff)] []))) (fun t => t.spsr.svc) = some 0xa00000ff := by
  decide

theorem test_v117_msrImm :
    seen (run 0xE328F20F (st 0x10 [(0, 0)] [])) (fun t => t.cpsr) = some 0xf0000010 := by
  decide

theorem test_v119_msrImm :
    seen (run 0xE321F0D3 (st 0x60000012 [(0, 0)] [])) (fun t => t.cpsr) = some 0x600000d3 := by
  decide

theorem test_v127_b :
    seen (run 0xEA7FFFFF (st 0x10 [] [])) (fun t => t.pc) = some 0x2008004 := by
  decide

theorem test_v128_b :
    seen (run 0xEA800000 (st 0x10 [] [])) (fun t => t.pc) = some 0xfe008008 := by
  decide

theorem test_v125_bl :
    seen (run 0xEB000002 (st 0x10 [] [])) (fun t => (t.reg 14, t.pc)) = some (0x8004, 0x8010) := by
  decide

theorem test_v129a_bx :
    seen (run 0xE12FFF1E (st 0x10 [(14, 0x9001)] [])) (fun t => (t.pc, t.cpsr)) = some (0x9000, 0x30) := by
  decide

theorem test_v130_blxReg :
    seen (run 0xE12FFF32 (v5 (st 0x10 [(2, 0x9000)] []))) (fun t => (t.reg 14, t.pc)) = some (0x8004, 0x9000) := by
  decide

theorem test_v130a_blxImm :
    seen (run 0xFA000000 (v5 (st 0x10 [] []))) (fun t => (t.reg 14, t.pc, t.cpsr)) = some (0x8004, 0x8008, 0x30) := by
  decide

theorem test_v130b_step :
    seen (run 0xFA000000 (st 0x10 [] [])) (fun t => (t.reg 14, t.pc, t.cpsr)) = some (0x0, 0x8004, 0x10) := by
  decide

theorem test_v131_step :
    seen (run 0xEE2ACF83 (st 0x6000001f [] [])) (fun t => (t.getPhys (.und 1), t.spsr.und, t.cpsr, t.pc)) = some (0x8004, 0x6000001f, 0x6000009b, 0x4) := by
  decide

theorem test_v132_step :
    seen (run 0xE7F000F0 (st 0x60000010 [] [])) (fun t => (t.getPhys (.und 1), t.spsr.und, t.cpsr, t.pc)) = some (0x8004, 0x60000010, 0x6000009b, 0x4) := by
  decide

theorem test_v133_step :
    seen (run 0xE0400090 (st 0x60000010 [] [])) (fun t => (t.getPhys (.und 1), t.spsr.und, t.cpsr, t.pc)) = some (0x8004, 0x60000010, 0x6000009b, 0x4) := by
  decide

theorem test_v138_step :
    seen (run 0xE1200070 (st 0x60000010 [] [])) (fun t => (t.getPhys (.und 1), t.spsr.und, t.cpsr, t.pc)) = some (0x8004, 0x60000010, 0x6000009b, 0x4) := by
  decide

theorem test_v62_step :
    seen (run 0xE16F1F10 (st 0x60000010 [] [])) (fun t => (t.getPhys (.und 1), t.spsr.und, t.cpsr, t.pc)) = some (0x8004, 0x60000010, 0x6000009b, 0x4) := by
  decide

theorem test_v136_step :
    seen (run 0xE1A00000 (withCfg (fun c => { c with aborts := [{ above 0x8000 with last := 0x8003 }] }) (st 0x60000010 [] []))) (fun t => (t.getPhys (.abt 1), t.spsr.abt, t.cpsr, t.pc)) = some (0x8004, 0x60000010, 0x60000097, 0xc) := by
  decide

theorem test_v140_step :
    seen (run 0xE1A00000 { (st 0x60000010 [] []) with lines := [⟨false, false, true⟩] }) (fun t => (t.getPhys (.irq 1), t.spsr.irq, t.cpsr, t.pc)) = some (0x8004, 0x60000010, 0x60000092, 0x18) := by
  decide

theorem test_v142_step :
    seen (run 0xE1A00000 { (st 0x60000010 [] []) with lines := [⟨false, true, false⟩] }) (fun t => (t.getPhys (.fiq 6), t.spsr.fiq, t.cpsr, t.pc)) = some (0x8004, 0x60000010, 0x600000d1, 0x1c) := by
  decide

theorem test_v143_step :
    seen (run 0xE1A00000 { (st 0x60000010 [] []) with lines := [⟨false, true, true⟩] }) (fun t => (t.getPhys (.fiq 6), t.spsr.fiq, t.cpsr, t.pc)) = some (0x8004, 0x60000010, 0x600000d1, 0x1c) := by
  decide

theorem test_v144_step :
    seen (run 0xE1A00000 { (st 0x60000050 [] []) with lines := [⟨false, true, true⟩] }) (fun t => (t.getPhys (.irq 1), t.spsr.irq, t.cpsr, t.pc)) = some (0x8004, 0x60000050, 0x600000d2, 0x18) := by
  decide

theorem test_v145_step :
    seen (run 0xE1A00000 { (st 0x60000010 [] []) with lines := [⟨true, true, true⟩] }) (fun t => (t.cpsr.extractLsb' 0 8, t.pc)) = some (0xD3#8, 0x0) := by
  decide

theorem test_v134_swi :
    seen (run 0xEF123456 (st 0x60000010 [] [])) (fun t => (t.getPhys (.svc 1), t.spsr.svc, t.cpsr, t.pc)) = some (0x8004, 0x60000010, 0x60000093, 0x8) := by
  decide

theorem test_v135_swi :
    seen (run 0xEF123456 (st 0x600000d3 [] [])) (fun t => (t.getPhys (.svc 1), t.spsr.svc, t.cpsr, t.pc)) = some (0x8004, 0x600000d3, 0x600000d3, 0x8) := by
  decide

theorem test_v137_bkpt :
    seen (run 0xE1200070 (v5 (st 0x60000010 [] []))) (fun t => (t.getPhys (.abt 1), t.spsr.abt, t.cpsr, t.pc)) = some (0x8004, 0x60000010, 0x60000097, 0xc) := by
  decide

theorem test_v53_subImm :
    seen (run 0xE25EF004 (withSpsr (.irq) 0x20000010 (st 0x60000092 [(14, 0x8104)] []))) (fun t => (t.pc, t.cpsr)) = some (0x8100, 0x20000010) := by
  decide

theorem test_v55_subImm :
    seen (run 0xE25EF008 (withSpsr (.abort) 0x2000001f (st 0x60000097 [(14, 0x8108)] []))) (fun t => (t.pc, t.cpsr)) = some (0x8100, 0x2000001f) := by
  decide

/-! ### One step: instructions without a vector, calculated by hand from their rules -/

/-- R272. -/
theorem test_strt_shifted :
    seen (run 0xE6A10082 (st 0x10 [(0, 0x11), (1, 0x40000000), (2, 3)] [])) (fun t => (t.mem.readWord 0x40000000, t.reg 1)) = some (0x11, 0x40000006) := by
  decide

/-- R273. -/
theorem test_ldrbt_down :
    seen (run 0xE4710001 (st 0x10 [(1, 0x145)] [(324, 0x73617246)])) (fun t => (t.reg 0, t.reg 1)) = some (0x72, 0x144) := by
  decide

/-- R274. -/
theorem test_strbt :
    seen (run 0xE4E10001 (st 0x10 [(0, 0x1ff), (1, 0x40000001)] [])) (fun t => (t.mem.readWord 0x40000000, t.reg 1)) = some (0xff00, 0x40000002) := by
  decide

/-- R266. -/
theorem test_strb_register_pre :
    seen (run 0xE7610002 (st 0x10 [(0, 0xab), (1, 0x40000004), (2, 1)] [])) (fun t => (t.mem.readWord 0x40000000, t.reg 1)) = some (0xab000000, 0x40000003) := by
  decide

/-- R264. -/
theorem test_ldrb_register_post :
    seen (run 0xE6D10002 (st 0x10 [(1, 0x147), (2, 0xffffffff)] [(324, 0x73617246)])) (fun t => (t.reg 0, t.reg 1)) = some (0x73, 0x146) := by
  decide

/-- R263. -/
theorem test_str_register_post :
    seen (run 0xE6810062 (st 0x20000010 [(0, 7), (1, 0x40000000), (2, 2)] [])) (fun t => (t.mem.readWord 0x40000000, t.reg 1)) = some (0x7, 0xc0000001) := by
  decide

/-- R293. -/
theorem test_strh_register_post_down :
    seen (run 0xE00100B2 (st 0x10 [(0, 0x12345678), (1, 0x40000002), (2, 2)] [])) (fun t => (t.mem.readWord 0x40000000, t.reg 1)) = some (0x56780000, 0x40000000) := by
  decide

/-- R166. -/
theorem test_blx_immediate_half :
    seen (run 0xFB000001 (v5 (st 0x10 [] []))) (fun t => (t.reg 14, t.pc, t.cpsr)) = some (0x8004, 0x800e, 0x30) := by
  decide

/-- R146. -/
theorem test_bl_skipped :
    seen (run 0x0B000002 (st 0x10 [(14, 5)] [])) (fun t => (t.reg 14, t.pc)) = some (0x5, 0x8004) := by
  decide

/-- R248. -/
theorem test_smlal_negative :
    seen (run 0xE0E10392 (st 0x10 [(1, 0xffffffff), (0, 0xfffffffe), (2, 0xffffffff), (3, 1)] [])) (fun t => (t.reg 1, t.reg 0)) = some (0xffffffff, 0xfffffffd) := by
  decide

/-- R358. -/
theorem test_mcr_pc_store :
    seen (run 0xEE01FF10 (withCfg (fun c => { c with coprocs := [1, 15] }) { (st 0x10 [] []) with cpReplies := [.accepts 0 []] })) (fun t => (t.cpSent, t.pc)) = some ([CpEvent.fromArm 15 0xEE01FF10 0x8008], 0x8004) := by
  decide

/-- R355. -/
theorem test_mrc_register :
    seen (run 0xEE110F10 (withCfg (fun c => { c with coprocs := [1, 15] }) { (st 0x10 [] []) with cpReplies := [.accepts 0xA5A5A5A5 []] })) (fun t => (t.reg 0, t.cpsr)) = some (0xa5a5a5a5, 0x10) := by
  decide

/-- R356. -/
theorem test_mrc_flags :
    seen (run 0xEE11FF10 (withCfg (fun c => { c with coprocs := [1, 15] }) { (st 0x50000010 [] []) with cpReplies := [.accepts 0xA5A5A5A5 []] })) (fun t => (t.cpsr, t.pc)) = some (0xa0000010, 0x8004) := by
  decide

/-- R357. -/
theorem test_cdp_busy :
    seen (run 0xEE2ACF83 (withCfg (fun c => { c with coprocs := [1, 15] }) { (st 0x10 [] []) with cpReplies := [.busy, .accepts 0 []] })) (fun t => (t.pc, t.cpReplies.length)) = some (0x8000, 0x1) := by
  decide

/-- R352. -/
theorem test_cdp_accepted :
    seen (run 0xEE2ACF83 (withCfg (fun c => { c with coprocs := [1, 15] }) { (st 0x10 [] []) with cpReplies := [.accepts 0 []] })) (fun t => (t.pc, t.cpSent)) = some (0x8004, [CpEvent.dataOp 15 0xEE2ACF83]) := by
  decide

/-- R353. -/
theorem test_ldc_two_words :
    seen (run 0xEDB32102 (withCfg (fun c => { c with coprocs := [1, 15] }) { (st 0x10 [(3, 0x40000000)] [(1073741832, 0x11), (1073741836, 0x22)]) with cpReplies := [.accepts 0 [0]] })) (fun t => (t.reg 3, t.cpSent)) = some (0x40000008, [CpEvent.takeWord 1 0xEDB32102 1 0x22, CpEvent.takeWord 1 0xEDB32102 0 0x11]) := by
  decide

/-- R354. -/
theorem test_stc_down :
    seen (run 0xEC232102 (withCfg (fun c => { c with coprocs := [1, 15] }) { (st 0x10 [(3, 0x40000008)] []) with cpReplies := [.accepts 0x11 [0x22]] })) (fun t => (t.mem.readWord 0x40000008, t.mem.readWord 0x4000000c, t.reg 3)) = some (0x11, 0x22, 0x40000000) := by
  decide

/-- R354. -/
theorem test_stc_unindexed :
    seen (run 0xEC832102 (withCfg (fun c => { c with coprocs := [1, 15] }) { (st 0x10 [(3, 0x40000008)] []) with cpReplies := [.accepts 0x11 []] })) (fun t => (t.mem.readWord 0x40000008, t.reg 3)) = some (0x11, 0x40000008) := by
  decide

/-- R315. -/
theorem test_ldm_user_bank_in_user_mode :
    why (run 0xE8D06000 (st 0x10 [(0, 0x40000000)] [])) = some .userBankForm := by
  decide

/-- R472. -/
theorem test_store_into_the_next_word :
    why (run 0xE5C12000 (st 0x10 [(1, 0x8004), (2, 1)] [])) = some .storeIntoPipeline := by
  decide

/-- R471. -/
theorem test_bank_named_after_user_load :
    why (run 0xE20D0001 { (st 0x13 [] []) with userBankWindow := true }) = some .bankedAfterUserLoad := by
  decide

/-- R28. -/
theorem test_advance_past_the_top :
    why (run 0xE3800013 { (st 0x10 [] []) with pc := 0xFFFFFFFC }) = some .pastTop := by
  decide

/-- N, Z and V of a flag-setting multiply (V58, V61a, V61d), whatever the free value C is (R245). -/
theorem test_multiply_flags : ∀ c : Bool,
    psrWithFlags 0x10000010 true false c true &&& 0xDFFFFFFF = 0x90000010 ∧
    psrWithFlags 0x00000010 false true c false &&& 0xDFFFFFFF = 0x40000010 := by decide

/-- The step refuses Thumb state (spec/40_execution_and_conditions.md R142). -/
theorem test_thumb_refused :
    (match run 0xE1A00000 (st 0x30 [] []) with
    | .refused .thumbState => true
    | _ => false) = true := by decide

/-- The first instruction after reset is the one placed by `withFetchWord`: the spec's `MOV r13, #0x40000000` of P4. -/
theorem test_with_fetch_word : seen (step (State.reset.withFetchWord 32 0xE3A0D101)) (fun t => (t.reg 13, t.pc)) = some (0x40000000, 4) := by
  decide

/-! ### States and operands that meet the hypotheses of the statements, clause by clause -/

/-- User mode, ARM state, nothing masked; a base in r1, small values in r2 and r3. -/
def user : State := st 0x10 [(0, 5), (1, 0x40000000), (2, 3), (3, 0x80000001), (14, 0x9000)] [(0x40000000, 0x11), (0x40000004, 0x9003)]

/-- The same registers in Supervisor mode, with a User-mode status saved. -/
def svc : State := withSpsr .supervisor 0x20000010 (st 0x13 [(0, 5), (1, 0x40000000), (2, 3), (3, 0x80000001), (14, 0x9000)] [])

/-- The state with every data access aborting, as User and privileged. -/
def aborting (s : State) : State :=
  withCfg (fun c => { c with aborts := [{ above 0 with kinds := [.read, .write] }] }) s

/-- The state with coprocessor 1 present and an answer waiting. -/
def answered (r : CpReply) (s : State) : State := { withCfg (fun c => { c with coprocs := [1] }) s with cpReplies := [r] }

/-- A state one of whose lines is high at the next step. -/
def lined (reset fiq irq : Bool) (s : State) : State := { s with lines := [{ reset := reset, fiq := fiq, irq := irq }] }

/-- The state at the last instruction word of the address space. -/
def atTop (s : State) : State := { s with pc := 0xFFFFFFFC }

theorem witness_EncodeAfterDecode : decode 0xEAFFFFFE = .ok (.b .al 0xFFFFFE) := rfl

theorem witness_UndefinedEncodings :
    nibble 0xE7F000F0 7 ≠ 0b1111 ∧ undefinedArea 0xE7F000F0 = true ∧ nibble 0xE0000000 7 ≠ 0b1111 ∧ undefinedArea 0xE0000000 = false ∧
      nibble 0xF0000000 7 = 0b1111 ∧ (0xF0000000 : Word).extractLsb' 25 3 ≠ 0b101#3 ∧ nibble 0xFB000000 7 = 0b1111 ∧
      (0xFB000000 : Word).extractLsb' 25 3 = 0b101#3 := by decide

theorem witness_BankedRegisters :
    (7 : RegNo).toNat = (7 : Fin 15).val ∧ (14 : RegNo).toNat = (6 : Fin 7).val + 8 ∧ (12 : RegNo).toNat = (12 : Fin 15).val ∧
      (13 : RegNo).toNat = (0 : Fin 2).val + 13 ∧ some Mode.irq ≠ some Mode.fiq ∧ (14 : RegNo).toNat = (14 : Fin 15).val ∧
      (st 0x14 [] []).mode = none ∧ (13 : RegNo) ∈ [(13 : RegNo)] := by decide

theorem witness_RegisterWritesReadBack : (14 : RegNo) ≠ 15 ∧ (0 : RegNo) ≠ 14 ∧ PhysReg.fiq 6 ≠ svc.phys 14 := by decide

theorem witness_ConditionTable : (0b1110 : BitVec 4) ≠ 0b1111 ∧ (0b0000 : BitVec 4) ≠ 0b1111 := by decide

theorem witness_StepKeepsTheInvariant : user.Inv ∧ seen (run 0xE0810002 user) (fun _ => true) = some true := by decide

theorem witness_StepKeepsParameters : seen (step (lined false false true svc)) (fun _ => true) = some true := by decide

theorem witness_UserMode :
    user.mode = some .user ∧ seen (run 0xE0810002 user) (fun t => t.mode) = some (some .user) ∧
      seen (run 0xEF000000 user) (fun t => t.mode) = some (some .supervisor) := by decide

theorem witness_ExceptionEntry : ExceptionKind.dataAbort ≠ .reset ∧ PhysReg.svc 1 ≠ .pc ∧ PhysReg.svc 1 ≠ bank (some .abort) 14 ∧
    Mode.irq ≠ .abort := by decide

theorem witness_StepTakesEventsInOrder :
    (lined true true true user).sample.reset = true ∧
    (user.sample.reset = false ∧ psrT (st 0x30 [] []).cpsr = true) ∧
    ((lined false true true user).sample.reset = false ∧ psrT user.cpsr = false ∧ (lined false true true user).sample.fiq = true ∧
      psrF user.cpsr = false) ∧
    ((lined false true true (st 0x50 [] [])).sample.irq = true ∧ psrI (st 0x50 [] []).cpsr = false ∧
      ((lined false true true (st 0x50 [] [])).sample.fiq && !psrF (st 0x50 [] []).cpsr) = false) ∧
    (NoEvent (withCfg (fun c => { c with aborts := [above 0x8000] }) user) ∧
      memAbort (withCfg (fun c => { c with aborts := [above 0x8000] }) user).cfg 0x8000 .word .fetch false = true) ∧
    (memAbort user.cfg 0x8002 .word .fetch false = false ∧ (0x8002 : Word).extractLsb' 0 2 ≠ 0b00#2 ∧ psrT user.cpsr = false) := by decide

theorem witness_ResetLineEntry : (lined true false false user).sample.reset = true := by decide

theorem witness_StepRuns :
    NoEvent (placeWord 0xE0810002 user) ∧ fetch (placeWord 0xE0810002 user) = some 0xE0810002 ∧
      decode 0xE0810002 = .ok (.addShiftImm .al false 1 0 0 .lsl 2) := ⟨by decide, by decide, rfl⟩

/-- MUL r1, r1, r2 (0xE0010291), refused: the second clause of the statement. -/
theorem witness_StepRunsRefused :
    NoEvent (placeWord 0xE0010291 user) ∧ fetch (placeWord 0xE0010291 user) = some 0xE0010291 ∧
      decodeTableWord 32 0xE0010291 = some (.mul .al false 1 0 2 1) ∧
      why (exec (.mul .al false 1 0 2 1) (placeWord 0xE0010291 user).sampled) = some .multiplyRegisters := by decide

theorem witness_FailedCondition :
    (NoEvent (placeWord 0x00810002 user) ∧ fetch (placeWord 0x00810002 user) = some 0x00810002 ∧
      Cond.ofBits (nibble 0x00810002 7) = some .eq ∧ conditionHolds .eq user.cpsr = false ∧ user.pc.toNat < 0xFFFFFFFC) ∧
    (NoEvent (withCfg (fun c => { c with aborts := [above 0x8000] }) user) ∧
      fetch (withCfg (fun c => { c with aborts := [above 0x8000] }) user) = none) := by decide

theorem witness_NoAdvance :
    (0xFFFFFFFC ≤ (atTop user).pc.toNat ∧ runs (.b .eq 0) (atTop user) = false) ∧
    (DpOp.tst.isTest = true ∧ Ready (DpOp.instr .tst (.imm 0 1) .al false 0 0) (atTop user)) ∧
    ((0 : RegNo) ≠ 15 ∧ Ready (DpOp.instr .add (.imm 0 1) .al false 0 0) (atTop user)) ∧
    (Ready (.mla .al true 0 0 2 3) (atTop user) ∧ isCoprocessor (.mla .al true 0 0 2 3) = none) ∧
    (Ready (.cdp .al 2 10 12 1 4 3) (answered (.accepts 7 []) (atTop user)) ∧ isCoprocessor (.cdp .al 2 10 12 1 4 3) = some 1 ∧
      cpAnswer 1 0 (answered (.accepts 7 []) (atTop user)) = (.accepts 7 [], { answered (.accepts 7 []) (atTop user) with cpReplies := [] })) := by
  decide

theorem witness_Sequential : Sequential (.mla .al true 0 0 2 3) ∧ Sequential (.cdp .al 2 10 12 1 4 3) ∧
    Sequential (.ldrImm .al true false 1 0 4) ∧ Sequential (.stm .al true false true 1 6) :=
  ⟨.mla .., .cdp .., .single .ldr (.offset false) (.imm 4) .al true 1 0 (.inr (by decide)), .stm ..⟩

theorem witness_UndefinedWords :
    (NoEvent (placeWord 0xE7F000F0 user) ∧ fetch (placeWord 0xE7F000F0 user) = some 0xE7F000F0 ∧
      Cond.ofBits (nibble 0xE7F000F0 7) = some .al ∧ conditionHolds .al user.cpsr = true) ∧
    (NoEvent (placeWord 0xF0000000 (v5 user)) ∧ fetch (placeWord 0xF0000000 (v5 user)) = some 0xF0000000 ∧ nibble 0xF0000000 7 = 0b1111 ∧
      (v5 user).cfg.archV5T = true) ∧
    (fetch (placeWord 0xF0000000 user) = some 0xF0000000 ∧ user.cfg.archV5T = false ∧ user.pc.toNat < 0xFFFFFFFC) ∧
    decodeTableWord 32 0xE7F000F0 = none ∧ decodeTableWord 32 0xF0000000 = none := by decide

theorem witness_AbsentInstructions :
    (runs (.clz .al 15 1 15 0) user = true ∧ present user.cfg (.clz .al 15 1 15 0) = false) ∧
    (withCfg (fun c => { c with hasThumb := false, hasLongMul := false }) user).cfg.hasThumb = false ∧
    (withCfg (fun c => { c with hasThumb := false, hasLongMul := false }) user).cfg.hasLongMul = false := by decide

theorem witness_RestrictedOperands :
    (isCoprocessor (.mul .al false 1 0 2 1) = none ∧ runs (.mul .al false 1 0 2 1) user = true ∧
      present user.cfg (.mul .al false 1 0 2 1) = true ∧ restriction (.mul .al false 1 0 2 1) = some .multiplyRegisters) ∧
    (runs (.addImm .al false 14 0 0 1) svc = true ∧ present svc.cfg (.addImm .al false 14 0 0 1) = true ∧
      restriction (.addImm .al false 14 0 0 1) = none ∧ svc.mode ≠ none ∧ (14 : RegNo) ∈ named (.addImm .al false 14 0 0 1) ∧
      (8 : RegNo) ∈ named (.addImm .al false 8 0 0 1) ∧ isCoprocessor (.addImm .al false 14 0 0 1) = none) := by decide

theorem witness_StoreThenLoad :
    user.mem.wf ∧ accessAddress user.cfg .word 0x40000003 = some 0x40000000 ∧
      memAbort user.cfg 0x40000000 .word .write false = false ∧ touchesDevice user.cfg 0x40000000 .word = false ∧
      memAbort user.cfg 0x40000000 .word .read false = false ∧ memWrite .word 0x40000003 7 false user =
        .done { user with mem := user.mem.writeBytes 0x40000000 7 4 } := by decide

theorem witness_ShiftByRegister :
    ((0x100 : Word).extractLsb' 0 8).toNat = 0 ∧ ((1 : Word).extractLsb' 0 8).toNat = 1 ∧ ((31 : Word).extractLsb' 0 8).toNat = 31 ∧
      ((32 : Word).extractLsb' 0 8).toNat = 32 ∧ ((33 : Word).extractLsb' 0 8).toNat = 33 ∧ ((0xFFFFFFFF : Word).extractLsb' 0 8).toNat = 255 ∧
      ((224 : Word).extractLsb' 0 8).toNat % 32 = 0 := by decide

theorem witness_LogicalOperations :
    DpOp.and.isLogical = true ∧ DpOp.and.isTest = false ∧ Ready (DpOp.instr .and (.imm 4 0xFF) .al true 0 14) svc ∧
      Ready (DpOp.instr .mvn (.shiftImm 0 .ror 3) .al false 0 0) svc ∧ Ready (DpOp.instr .orr (.shiftReg 2 .asr 3) .al true 0 0) svc ∧
      svc.pc.toNat < 0xFFFFFFFC := by decide

theorem witness_ArithmeticOperations :
    DpOp.sub.isLogical = false ∧ DpOp.sub.isTest = false ∧ Ready (DpOp.instr .sub (.imm 0 5) .al true 15 14) user ∧
      Ready (DpOp.instr .rsc (.shiftImm 31 .asr 3) .al true 0 0) user ∧ Ready (DpOp.instr .adc (.shiftReg 2 .ror 3) .al false 0 1) user ∧
      user.pc.toNat < 0xFFFFFFFC := by decide

theorem witness_Tests :
    DpOp.cmp.isTest = true ∧ Ready (DpOp.instr .cmp (.imm 0 5) .al false 0 0) user ∧
      Ready (DpOp.instr .teq (.shiftReg 2 .ror 3) .al false 0 0) user ∧ user.pc.toNat < 0xFFFFFFFC := by decide

theorem witness_DataProcessingBranches :
    DpOp.mov.isTest = false ∧ Ready (DpOp.instr .mov (.shiftImm 0 .lsl 14) .al false 0 15) user ∧
      (user.reg 14).extractLsb' 0 2 = 0b00#2 ∧ Ready (DpOp.instr .mov (.shiftImm 0 .lsl 2) .al false 0 15) user ∧
      (user.reg 2).extractLsb' 0 2 ≠ 0b00#2 := by decide

theorem witness_ExceptionReturn :
    (user.cfg.hasThumb = true ∧ Ready (DpOp.instr .sub (.imm 0 4) .al true 14 15) user ∧ user.currentSpsr = none) ∧
    (Ready (DpOp.instr .sub (.imm 0 4) .al true 14 15) svc ∧ svc.currentSpsr = some 0x20000010 ∧
      Mode.ofBits (psrMode 0x20000010) ≠ none ∧ psrT 0x20000010 = false ∧ (svc.reg 14 - 4).extractLsb' 0 2 = 0b00#2) ∧
    (Ready (DpOp.instr .sub (.imm 0 3) .al true 14 15) svc ∧ (svc.reg 14 - 3).extractLsb' 0 2 ≠ 0b00#2) ∧
    ((withSpsr .supervisor 0x20000014 svc).currentSpsr = some 0x20000014 ∧ Mode.ofBits (psrMode 0x20000014) = none ∧
      Ready (DpOp.instr .sub (.imm 0 4) .al true 14 15) (withSpsr .supervisor 0x20000014 svc)) := by decide

theorem witness_Multiplies :
    Ready (.mul .al true 0 0 2 3) user ∧ Ready (.mla .al true 0 0 2 3) user ∧ user.pc.toNat < 0xFFFFFFFC := by decide

theorem witness_LongMultiplies :
    Ready (LongOp.instr .umull .al true 1 0 2 3) user ∧ Ready (LongOp.instr .smlal .al true 1 0 3 3) user ∧ user.pc.toNat < 0xFFFFFFFC := by decide

theorem witness_Clz :
    Ready (.clz .al 15 1 15 0) (v5 user) ∧ (v5 user).reg 0 ≠ 0 ∧ Ready (.clz .al 15 1 15 4) (v5 user) ∧ (v5 user).reg 4 = 0 ∧
      (v5 user).pc.toNat < 0xFFFFFFFC := by decide

theorem witness_Swaps :
    (Ready (.swp .al 1 0 0 2) user ∧ memAbort user.cfg 0x40000000 .word .read false = false ∧
      memAbort user.cfg 0x40000000 .word .write false = false ∧
      pipelineChanged user.pc user.mem (user.mem.writeBytes 0x40000000 3 4) = false ∧ user.pc.toNat < 0xFFFFFFFC) ∧
    (Ready (.swpb .al 3 0 0 2) (st 0x10 [(2, 1), (3, 0x8004)] []) ∧
      pipelineChanged (st 0x10 [(2, 1), (3, 0x8004)] []).pc (st 0x10 [(2, 1), (3, 0x8004)] []).mem
        ((st 0x10 [(2, 1), (3, 0x8004)] []).mem.writeBytes 0x8004 1 1) = true) ∧
    (Ready (.swp .al 1 0 0 2) (aborting user) ∧ memAbort (aborting user).cfg 0x40000000 .word .read false = true) := by decide

theorem witness_Mrs :
    (Ready (.mrs .al true 15 0 0 0) svc ∧ svc.currentSpsr = some 0x20000010 ∧ svc.pc.toNat < 0xFFFFFFFC) ∧
      Ready (.mrs .al false 15 14 0 0) user ∧ (Ready (.mrs .al true 15 0 0 0) user ∧ user.currentSpsr = none) := by decide

theorem witness_MsrCpsr :
    (Ready (.msrReg .al false 1 15 0 0) (st 0x13 [(0, 0x33)] []) ∧ (st 0x13 [(0, 0x33)] []).privileged = true ∧
      (0x33 : Word).getLsbD 5 ≠ psrT 0x13) ∧
    (Ready (.msrReg .al false 1 15 0 0) (st 0x13 [(0, 0x14)] []) ∧ Mode.ofBits (psrMode 0x14) = none) ∧
    (Ready (.msrImm .al false 9 15 0 0xD3) svc ∧ (0xD3 : Word).getLsbD 5 = psrT svc.cpsr ∧ Mode.ofBits (psrMode 0xD3) ≠ none) ∧
    (Ready (.msrImm .al false 9 15 0 0x14) user ∧ user.privileged = false ∧ user.pc.toNat < 0xFFFFFFFC) := by decide

theorem witness_MsrSpsr :
    (Ready (.msrReg .al true 9 15 0 0) user ∧ user.currentSpsr = none) ∧
    (Ready (.msrImm .al true 9 15 0 0x14) svc ∧ svc.currentSpsr = some 0x20000010 ∧ svc.pc.toNat < 0xFFFFFFFC) ∧
    svc.mode ≠ some .fiq := by decide

theorem witness_Branches :
    Ready (.b .al 0x800000) user ∧ Ready (.bl .al 0x7FFFFF) (atTop user) ∧ Ready (.bl .ne 0) svc := by decide

theorem witness_BranchesExchange :
    ((v5 user).cfg.hasThumb = true ∧ Ready (.bx .al 0xFFF 14) (v5 user) ∧ ((v5 user).reg 14).extractLsb' 0 2 ≠ 0b10#2) ∧
    (Ready (.blxReg .al 0xFFF 3) (v5 user) ∧ ((v5 user).reg 3).extractLsb' 0 2 ≠ 0b10#2) ∧
    (((v5 (st 0x10 [(2, 0x9002)] [])).reg 2).extractLsb' 0 2 = 0b10#2 ∧ Ready (.bx .al 0xFFF 2) (v5 (st 0x10 [(2, 0x9002)] [])) ∧
      Ready (.blxReg .al 0xFFF 2) (v5 (st 0x10 [(2, 0x9002)] []))) ∧
    Ready (.blxImm true 0xFFFFFF) (v5 user) := by decide

theorem witness_SwiAndBreakpoint : Ready (.swi .al 0) (atTop svc) ∧ Ready (.bkpt .al 0xFFF 15) (v5 user) := by decide

theorem witness_Loads :
    Ready (SingleOp.instr .ldr (.offset true) (.imm 3) .al true 1 0) user ∧
      Ready (SingleOp.instr .ldrb .post (.reg 0 .ror 2) .al false 1 0) user ∧ Ready (SingleOp.instr .ldr .user (.imm 0xFFF) .al false 1 0) svc ∧
      memAbort user.cfg 0x40000000 .word .read false = false ∧ memAbort svc.cfg 0x40000000 .word .read false = false ∧
      memAbort user.cfg 0x40000000 .byte .read false = false ∧ user.pc.toNat < 0xFFFFFFFC := by decide

theorem witness_LoadsIntoThePc :
    (Ready (SingleOp.instr .ldr (.offset false) (.imm 3) .al true 1 15) user ∧
      ((SingleForm.offset false).transfer (.imm 3) true 1 user).address.extractLsb' 0 2 ≠ 0b00#2 ∧
      memAbort user.cfg (wordAddress 0x40000003) .word .read false = false) ∧
    (Ready (SingleOp.instr .ldr .post (.imm 4) .al true 1 15) user ∧ user.cfg.archV5T = false ∧
      (SingleForm.post.transfer (.imm 4) true 1 user).address = 0x40000000) ∧
    (Ready (SingleOp.instr .ldr (.offset false) (.imm 4) .al true 1 15) (v5 user) ∧ (v5 user).cfg.archV5T = true ∧ (v5 user).cfg.hasThumb = true ∧
      ((v5 user).dataValue 0x40000004 .word).extractLsb' 0 2 ≠ 0b10#2) ∧
    (Ready (SingleOp.instr .ldr (.offset false) (.imm 0) .al true 1 15) (v5 (st 0x10 [(1, 0x40000000)] [(0x40000000, 2)])) ∧
      ((v5 (st 0x10 [(1, 0x40000000)] [(0x40000000, 2)])).dataValue 0x40000000 .word).extractLsb' 0 2 = 0b10#2) := by decide

theorem witness_Stores :
    (Ready (SingleOp.instr .str (.offset true) (.imm 3) .al true 1 15) user ∧
      memAbort user.cfg 0x40000000 .word .write false = false ∧
      pipelineChanged user.pc user.mem (user.mem.writeBytes 0x40000000 0x8008 4) = false ∧ user.pc.toNat < 0xFFFFFFFC) ∧
    (Ready (SingleOp.instr .strb .user (.reg 31 .lsl 2) .al false 1 0) svc ∧ memAbort svc.cfg 0x40000000 .byte .write false = false) ∧
    (Ready (SingleOp.instr .strb .post (.imm 0) .al true 1 2) (st 0x10 [(1, 0x800B), (2, 1)] []) ∧
      pipelineChanged 0x8000 [] (Memory.writeBytes [] 0x800B 1 1) = true) := by decide

theorem witness_SingleTransferAborts :
    (Ready (SingleOp.instr .ldr (.offset true) (.imm 3) .al true 1 0) (aborting user) ∧
      memAbort (aborting user).cfg 0x40000000 .word .read false = true ∧ user.phys 1 ≠ .pc ∧ user.phys 1 ≠ .abt 1) ∧
    (Ready (SingleOp.instr .strb .user (.imm 1) .al false 1 0) (aborting svc) ∧
      memAbort (aborting svc).cfg 0x40000000 .byte .write false = true) := by decide

theorem witness_HalfwordLoads :
    HalfOp.ldrsh ≠ .strh ∧ Ready (HalfOp.instr .ldrsh (.imm 0 2) .al true true true 1 0) user ∧
      accessAddress user.cfg .half 0x40000002 = some 0x40000002 ∧ memAbort user.cfg 0x40000002 .half .read false = false ∧
      Ready (HalfOp.instr .ldrsb (.reg 2) .al false false false 1 0) user ∧ accessAddress user.cfg .byte 0x40000000 = some 0x40000000 ∧
      Ready (HalfOp.instr .ldrh (.reg 2) .al false true false 1 0) user ∧ memAbort user.cfg 0x40000000 .byte .read false = false ∧
      user.pc.toNat < 0xFFFFFFFC := by decide

theorem witness_HalfwordStores :
    (Ready (HalfOp.instr .strh (.imm 0 2) .al true true true 1 0) user ∧ accessAddress user.cfg .half 0x40000002 = some 0x40000002 ∧
      memAbort user.cfg 0x40000002 .half .write false = false ∧
      pipelineChanged user.pc user.mem (user.mem.writeBytes 0x40000002 5 2) = false ∧ user.pc.toNat < 0xFFFFFFFC) ∧
    (Ready (HalfOp.instr .strh (.imm 0 0) .al true true false 1 2) (st 0x10 [(1, 0x8006), (2, 1)] []) ∧
      pipelineChanged 0x8000 [] (Memory.writeBytes [] 0x8006 1 2) = true) := by decide

theorem witness_HalfwordAddresses :
    ((HalfOffset.imm 0 2).transfer true true false 1 user).address.getLsbD 0 = false ∧
    (((HalfOffset.imm 0 1).transfer true true false 1 user).address.getLsbD 0 = true ∧ user.cfg.halfwordMisaligned = .refuse ∧
      Ready (HalfOp.instr .ldrh (.imm 0 1) .al true true false 1 0) user) ∧
    (withCfg (fun c => { c with halfwordMisaligned := .ignoreBit0 }) user).cfg.halfwordMisaligned = .ignoreBit0 ∧
    (Ready (HalfOp.instr .strh (.imm 0 2) .al true true true 1 0) (aborting user) ∧
      accessAddress (aborting user).cfg .half 0x40000002 = some 0x40000002 ∧
      memAbort (aborting user).cfg 0x40000002 .half .write false = true) := by decide

theorem witness_LdmLoadsTheList :
    (Ready (.ldm .al false true true 1 0x4001) user ∧ noAbort user .read 0x40000000 2 ∧ user.cfg.archV5T = false ∧ user.pc.toNat < 0xFFFFFFFC) ∧
    (Ready (.ldm .al false true true 1 0x8001) (v5 user) ∧ noAbort (v5 user) .read 0x40000000 2 ∧ (v5 user).cfg.hasThumb = true ∧
      (0x8001 : BitVec 16).getLsbD 15 = true) := by decide

/-- From v5T on a word with bits 1:0 = 0b10 that LDM loads into r15 gives T = 0 and keeps bit 1 in the meaning (R312); the step leaves
the pc word aligned in ARM state (R27, R70). -/
theorem test_ldm_pc_v5t :
    seen (exec (.ldm .al false true false 1 0x8000) (v5 (st 0x10 [(1, 0x40000004)] [(0x40000004, 0x42)])))
        (fun t => (t.pc, psrT t.cpsr)) = some (0x42, false) ∧
      seen (run 0xE8918000 (v5 (st 0x10 [(1, 0x40000004)] [(0x40000004, 0x42)]))) (fun t => (t.pc, psrT t.cpsr)) = some (0x40, false) := by
  decide

theorem witness_LdmUserBank :
    (Ready (.ldmUser .al false true false 1 0x6000) user ∧ user.mode = some .user) ∧
    (Ready (.ldmUser .al false true false 1 0x6000) svc ∧ svc.mode ≠ some .user ∧ svc.mode ≠ some .system ∧
      noAbort svc .read 0x40000000 2 ∧ svc.pc.toNat < 0xFFFFFFFC) := by decide

theorem witness_LdmReturns :
    (Ready (.ldmReturn .al false true true 1 0) user ∧ user.cfg.hasThumb = true ∧ user.currentSpsr = none) ∧
    (Ready (.ldmReturn .al false true true 1 0x4001) svc ∧ svc.currentSpsr = some 0x20000010 ∧ noAbort svc .read 0x40000000 3 ∧
      Mode.ofBits (psrMode 0x20000010) ≠ none) ∧
    (Ready (.ldmReturn .al false true true 1 1) (withSpsr .supervisor 0x14 svc) ∧
      noAbort (withSpsr .supervisor 0x14 svc) .read 0x40000000 2 ∧ Mode.ofBits (psrMode 0x14) = none) := by decide

theorem witness_StmStores :
    (Ready (.stmUser .al false true false 1 0x6000) user ∧ user.mode = some .user) ∧
    (Ready (.stmUser .al false true false 1 0xE000) svc ∧ svc.mode ≠ some .user ∧ svc.mode ≠ some .system ∧
      noAbort svc .write 0x40000000 3) ∧
    (Ready (.stm .al true false true 1 0x8002) (atTop user) ∧ Ready (.stm .al true false true 1 6) user ∧ noAbort user .write 0x3FFFFFF8 2 ∧
      pipelineChanged user.pc user.mem (storeWords [0x40000000, 3] 0x3FFFFFF8 user.mem) = false ∧ user.pc.toNat < 0xFFFFFFFC) ∧
    (Ready (.stm .al false true false 1 4) (st 0x10 [(1, 0x8008), (2, 1)] []) ∧
      pipelineChanged 0x8000 [] (storeWords [1] 0x8008 []) = true) := by decide

theorem witness_AbortedLdm :
    (Ready (.ldm .al false true true 1 0x4005) (withCfg (fun c => { c with aborts := [above 0x40000004] }) user) ∧
      1 < (listedRegs (0x4005 : BitVec 16)).length ∧
      noAbort (withCfg (fun c => { c with aborts := [above 0x40000004] }) user) .read 0x40000000 1 ∧
      memAbort (withCfg (fun c => { c with aborts := [above 0x40000004] }) user).cfg 0x40000004 .word .read false = true ∧
      user.phys 1 ≠ .abt 1) ∧
    (Ready (.ldmUser .al false true false 1 0x4005) (aborting svc) ∧ svc.mode ≠ some .user ∧ svc.mode ≠ some .system ∧
      memAbort (aborting svc).cfg 0x40000000 .word .read true = true) ∧
    (Ready (.ldmReturn .al false true true 1 1) (withCfg (fun c => { c with aborts := [above 0x40000004] }) svc) ∧ svc.currentSpsr ≠ none ∧
      1 < (LdmForm.exceptionReturn 1).regs.length ∧
      noAbort (withCfg (fun c => { c with aborts := [above 0x40000004] }) svc) .read 0x40000000 1 ∧
      memAbort (withCfg (fun c => { c with aborts := [above 0x40000004] }) svc).cfg 0x40000004 .word .read true = true) := by decide

theorem witness_AbortedStm :
    Ready (.stm .al true false true 1 0x4005) (aborting user) ∧ (aborting user).mem.wf ∧ 1 < (listedRegs (0x4005 : BitVec 16)).length ∧
      memAbort (aborting user).cfg 0x3FFFFFF8 .word .write false = true ∧
      (∀ k < 3, wordAddress (blockAddress 0x3FFFFFF4 k) ≠ wordAddress (0x8000 + 4) ∧
        wordAddress (blockAddress 0x3FFFFFF4 k) ≠ wordAddress (0x8000 + 8)) ∧
      user.pc.extractLsb' 0 2 = 0b00#2 ∧ user.phys 1 ≠ .abt 1 ∧
      (Ready (.stmUser .al true false false 1 0x4005) (aborting svc) ∧ svc.mode ≠ some .user ∧ svc.mode ≠ some .system ∧
        (aborting svc).mem.wf ∧ memAbort (aborting svc).cfg 0x3FFFFFF8 .word .write true = true) := by decide

theorem witness_UnacceptedCoprocessor :
    isCoprocessor (.cdp .al 2 10 12 1 4 3) = some 1 ∧ runs (.cdp .al 2 10 12 1 4 3) user = true ∧ (1 : BitVec 4) ∉ user.cfg.coprocs ∧
      (1 : BitVec 4) ∈ (answered .busy user).cfg.coprocs ∧
      cpAnswer 1 0xEE2AC183 (answered .busy user) = (.busy, { answered .busy user with cpReplies := [] }) ∧
      cpAnswer 1 0xEE2AC183 (answered .declines user) = (.declines, { answered .declines user with cpReplies := [] }) := by decide

theorem witness_CoprocessorRegister :
    Ready (.cdp .al 2 10 12 1 4 3) (answered (.accepts 7 []) user) ∧ Ready (.mcr .al 0 1 15 1 0 0) (answered (.accepts 7 []) user) ∧
      Ready (.mrc .al 0 1 15 1 0 0) (answered (.accepts 7 []) user) ∧ Ready (.mrc .al 0 1 14 1 0 0) (answered (.accepts 7 []) user) ∧
      (1 : BitVec 4) ∈ (answered (.accepts 7 []) user).cfg.coprocs ∧
      cpAnswer 1 0 (answered (.accepts 7 []) user) = (.accepts 7 [], { answered (.accepts 7 []) user with cpReplies := [] }) ∧
      user.pc.toNat < 0xFFFFFFFC := by decide

theorem witness_Ldc :
    Ready (CpForm.ldc (.offset true true) .al false 1 2 1 0xFF) (answered (.accepts 7 [8]) user) ∧
      Ready (CpForm.ldc (.postUp false) .al true 15 2 1 0) (answered (.accepts 7 [8]) user) ∧
      Ready (CpForm.ldc .postDown .al true 1 2 1 1) (answered (.accepts 7 [8]) user) ∧
      cpAnswer 1 0 (answered (.accepts 7 [8]) user) = (.accepts 7 [8], { answered (.accepts 7 [8]) user with cpReplies := [] }) ∧
      noAbort (answered (.accepts 7 [8]) user) .read 0x400003FC 2 ∧ noAbort (answered (.accepts 7 [8]) user) .read 0x40000000 2 := by decide

theorem witness_Stc :
    Ready (CpForm.stc (.offset false true) .al false 1 2 1 0) (answered (.accepts 7 [8]) user) ∧
      noAbort (answered (.accepts 7 [8]) user) .write 0x40000000 2 ∧
      pipelineChanged user.pc user.mem (storeWords [7, 8] 0x40000000 user.mem) = false ∧ user.pc.toNat < 0xFFFFFFFC ∧
      Ready (CpForm.stc .postDown .al false 1 2 1 1) (answered (.accepts 7 []) (st 0x10 [(1, 0x8004)] [])) ∧
      pipelineChanged 0x8000 [] (storeWords [7] 0x8004 []) = true := by decide

theorem witness_AbortedCoprocessorTransfers :
    (Ready (CpForm.ldc (.offset true true) .al false 1 2 1 0) (answered (.accepts 7 [8]) (withCfg (fun c => { c with aborts := [above 0x40000004] }) user)) ∧
      noAbort (withCfg (fun c => { c with aborts := [above 0x40000004] }) user) .read 0x40000000 1 ∧
      memAbort (withCfg (fun c => { c with aborts := [above 0x40000004] }) user).cfg (wordAddress (blockAddress 0x40000000 1)) .word .read
        false = true) ∧
    (Ready (CpForm.stc (.offset true true) .al false 1 2 1 0) (answered (.accepts 7 [8]) (withCfg (fun c => { c with aborts := [above 0x40000004] }) user)) ∧
      noAbort (withCfg (fun c => { c with aborts := [above 0x40000004] }) user) .write 0x40000000 1 ∧
      memAbort (withCfg (fun c => { c with aborts := [above 0x40000004] }) user).cfg (wordAddress (blockAddress 0x40000000 1)) .word .write
        false = true ∧
      pipelineChanged user.pc user.mem (storeWords [7] 0x40000000 user.mem) = false) ∧
    pipelineChanged 0x8000 [] (storeWords [7] 0x8004 []) = true := by
  decide

theorem witness_BlockAddressTable :
    1 ≤ 16 ∧ 1 ≤ 1 ∧ newBase false 0x10 16 = 0xFFFFFFD0 ∧ startAddress false false 0x10 16 = 0xFFFFFFD4 := by decide

/-- A finished state, and three that R142 and R148 keep apart from it: Thumb state, an aborting fetch, an interrupt to come. -/
theorem test_finished :
    (placeWord 0xEAFFFFFE user).finished = true ∧ (placeWord 0xEAFFFFFE (st 0x30 [] [])).finished = false ∧
      (withCfg (fun c => { c with aborts := [above 0x8000] }) (placeWord 0xEAFFFFFE user)).finished = false ∧
      (lined false true false (placeWord 0xEAFFFFFE user)).finished = false := by decide

end Sys2Proof.Tests
end

/-! ## The bank of a register number (R22)

One equation per row of `Bank(i, m)`, in the order of the spec's table, and the stop that stands for its UNPREDICTABLE row. -/

namespace Sys2Proof.Machine

/-- r0 to r7 are one set of registers for all modes. -/
theorem bank_of_le_seven (m : Option Mode) {r : RegNo} {i : Fin 15} (hi : r.toNat = i.val) (h7 : i.val ≤ 7) :
    bank m r = .usr i := by
  have hr : r.toNat < 8 := by omega
  simp only [bank, hr, ↓reduceDIte, PhysReg.usr.injEq]
  exact Fin.ext hi

/-- FIQ mode has its own r8 to r14. -/
theorem bank_fiq {r : RegNo} {i : Fin 7} (hi : r.toNat = i.val + 8) : bank (some .fiq) r = .fiq i := by
  have h8 : ¬ r.toNat < 8 := by omega
  have h15 : ¬ r.toNat = 15 := by omega
  simp only [bank, h8, h15, ↓reduceDIte, PhysReg.fiq.injEq]
  exact Fin.ext (by simp [hi])

/-- r8 to r12 are those of the base bank in every mode but FIQ, and in a mode field that is no mode. -/
theorem bank_of_le_twelve {m : Option Mode} (hm : m ≠ some .fiq) {r : RegNo} {i : Fin 15} (hi : r.toNat = i.val)
    (h12 : i.val ≤ 12) : bank m r = .usr i := by
  have h13 : r.toNat < 13 := by omega
  have h15 : ¬ r.toNat = 15 := by omega
  have hr : (⟨r.toNat, by omega⟩ : Fin 15) = i := Fin.ext hi
  cases m with
  | none => simp [bank, h15, hr]
  | some m =>
    cases m with
    | fiq => exact absurd rfl hm
    | user | irq | supervisor | abort | undefined | system => simp [bank, h13, h15, hr]

/-- The four exception modes beside FIQ have each their own r13 and r14. -/
theorem bank_of_exceptionMode {r : RegNo} {i : Fin 2} (hi : r.toNat = i.val + 13) :
    bank (some .irq) r = .irq i ∧ bank (some .supervisor) r = .svc i ∧ bank (some .abort) r = .abt i ∧
      bank (some .undefined) r = .und i := by
  have h8 : ¬ r.toNat < 8 := by omega
  have h13 : ¬ r.toNat < 13 := by omega
  have h15 : ¬ r.toNat = 15 := by omega
  have hr : (⟨r.toNat - 13, by omega⟩ : Fin 2) = i := Fin.ext (by simp [hi])
  simp [bank, h8, h13, h15, hr]

/-- User and System mode see the base bank. -/
theorem bank_user_system {r : RegNo} {i : Fin 15} (hi : r.toNat = i.val) :
    bank (some .user) r = .usr i ∧ bank (some .system) r = .usr i := by
  have h15 : ¬ r.toNat = 15 := by omega
  have hr : (⟨r.toNat, by omega⟩ : Fin 15) = i := Fin.ext hi
  simp [bank, h15, hr]

/-- Where the mode field is no mode, r13 and r14 name no register: an instruction that names one is stopped (U1). -/
theorem accessStop_of_mode_none {s : State} {regs : List RegNo} (hm : s.mode = none) (hr : 13 ∈ regs ∨ 14 ∈ regs) :
    accessStop s regs = some .illegalMode := by
  have hany : regs.any (fun r => r = 13 || r = 14) = true := by
    rw [List.any_eq_true]
    rcases hr with h | h
    · exact ⟨13, h, rfl⟩
    · exact ⟨14, h, rfl⟩
  exact if_pos ⟨hm, hany⟩

end Sys2Proof.Machine

namespace Sys2Proof.Proofs

open Sys2Proof.Machine

/-- Settles O5: the rows of the table of R22 one by one, and the stop of its last, UNPREDICTABLE one. -/
theorem bankedRegisters : Obligations.BankedRegisters := by
  refine ⟨fun m r => ⟨?sharedLow, ?pc, ?fiq, ?sharedMiddle, ?exceptionModes, ?userSystem⟩, ?noMode⟩
  case sharedLow => exact fun i hi h7 => bank_of_le_seven m hi h7
  case pc => rintro rfl; exact bank_r15 m
  case fiq => exact fun i hi => bank_fiq hi
  case sharedMiddle => exact fun i hi h12 hm => bank_of_le_twelve hm hi h12
  case exceptionModes => exact fun i hi => bank_of_exceptionMode hi
  case userSystem => exact fun i hi => bank_user_system hi
  case noMode => exact fun s regs hm hr => accessStop_of_mode_none hm hr

end Sys2Proof.Proofs

/-! ## The condition field (R144, R145)

`ConditionPassed` of R145 and the table of R144 are the same test, and the condition of a decoded instruction is the one its word's
bits 31:28 hold. -/

namespace Sys2Proof

/-- Every field but 1111 holds a condition. -/
theorem Cond.exists_bits_eq {b : BitVec 4} (hb : b ≠ 0b1111) : ∃ c : Cond, c.bits = b := by
  cases hc : Cond.ofBits b with
  | some c => exact ⟨c, Cond.bits_ofBits b c hc⟩
  | none => exact absurd hc ((by decide : ∀ b : BitVec 4, b ≠ 0b1111 → Cond.ofBits b ≠ none) b hb)

end Sys2Proof

namespace Sys2Proof.Machine

/-- R145 tests bits 3:1 of the field and negates by bit 0; R144 gives the same for each code. -/
theorem conditionPassed_bits (c : Cond) (p : Word) : Claims.conditionPassed c.bits p = conditionHolds c p := by
  cases c <;> rfl

/-! ### The condition of a decoded instruction -/

theorem condition_decodeDpImm (c : Cond) (op : BitVec 4) (sf : Bool) (n4 n3 n2 n1 n0 : BitVec 4) :
    condition (decodeDpImm c op sf n4 n3 n2 n1 n0) = some c := by
  unfold decodeDpImm; split <;> rfl

theorem condition_decodeDpShiftImm (c : Cond) (op : BitVec 4) (sf : Bool) (n4 n3 n2 n1 n0 : BitVec 4) :
    condition (decodeDpShiftImm c op sf n4 n3 n2 n1 n0) = some c := by
  unfold decodeDpShiftImm; split <;> rfl

theorem condition_decodeDpShiftReg (c : Cond) (op : BitVec 4) (sf : Bool) (n4 n3 n2 n1 n0 : BitVec 4) :
    condition (decodeDpShiftReg c op sf n4 n3 n2 n1 n0) = some c := by
  unfold decodeDpShiftReg; split <;> rfl

theorem condition_decodeSingleImm (c : Cond) (n6 n5 n4 n3 : BitVec 4) (imm : BitVec 12) :
    condition (decodeSingleImm c n6 n5 n4 n3 imm) = some c := by
  unfold decodeSingleImm; split <;> rfl

theorem condition_decodeSingleReg (c : Cond) (n6 n5 n4 n3 : BitVec 4) (amount : BitVec 5) (kind : ShiftKind) (n0 : BitVec 4) :
    condition (decodeSingleReg c n6 n5 n4 n3 amount kind n0) = some c := by
  unfold decodeSingleReg; split <;> rfl

theorem condition_decodeMultiple (c : Cond) (n6 n5 n4 n3 n2 n1 n0 : BitVec 4) :
    condition (decodeMultiple c n6 n5 n4 n3 n2 n1 n0) = some c := by
  unfold decodeMultiple; split <;> rfl

theorem condition_decodeCpRegister (c : Cond) (n5 n4 n3 n2 n1 n0 : BitVec 4) :
    condition (decodeCpRegister c n5 n4 n3 n2 n1 n0) = some c := by
  unfold decodeCpRegister; split <;> rfl

section Classes

variable {c : Cond} {n6 n5 n4 n3 n2 n1 n0 : BitVec 4} {i : Instr}

theorem condition_of_decodeMultiplySwap (h : decodeMultiplySwap c n6 n5 n4 n3 n2 n0 = .ok i) : condition i = some c := by
  unfold decodeMultiplySwap at h
  split at h
  case isTrue => split at h <;> cases h <;> rfl
  case isFalse => split at h <;> cases h <;> rfl

theorem condition_of_decodeHalfword (h : decodeHalfword c n6 n5 n4 n3 n2 n1 n0 = .ok i) : condition i = some c := by
  unfold decodeHalfword at h; split at h <;> cases h <;> rfl

theorem condition_of_decodeControl (h : decodeControl c n5 n4 n3 n2 n1 n0 = .ok i) : condition i = some c := by
  unfold decodeControl at h; split at h <;> cases h <;> rfl

theorem condition_of_decodeCpTransfer (h : decodeCpTransfer c n6 n5 n4 n3 n2 n1 n0 = .ok i) : condition i = some c := by
  unfold decodeCpTransfer at h; split at h <;> cases h <;> rfl

theorem condition_of_decodeClass000 (h : decodeClass000 c n6 n5 n4 n3 n2 n1 n0 = .ok i) : condition i = some c := by
  unfold decodeClass000 at h
  split_ifs at h
  · exact condition_of_decodeMultiplySwap h
  · exact condition_of_decodeHalfword h
  · exact condition_of_decodeControl h
  · cases h; exact condition_decodeDpShiftReg ..
  · cases h; exact condition_decodeDpShiftImm ..

theorem condition_of_decodeClass001 (h : decodeClass001 c n6 n5 n4 n3 n2 n1 n0 = .ok i) : condition i = some c := by
  unfold decodeClass001 at h
  split_ifs at h
  · cases h; rfl
  · cases h; exact condition_decodeDpImm ..

theorem condition_of_decodeConditional (h : decodeConditional c n6 n5 n4 n3 n2 n1 n0 = .ok i) : condition i = some c := by
  unfold decodeConditional at h
  split at h
  case h_1 => exact condition_of_decodeClass000 h
  case h_2 => exact condition_of_decodeClass001 h
  case h_3 => cases h; exact condition_decodeSingleImm ..
  case h_4 => split at h <;> cases h; exact condition_decodeSingleReg ..
  case h_5 => cases h; exact condition_decodeMultiple ..
  case h_6 => split at h <;> cases h <;> rfl
  case h_7 => exact condition_of_decodeCpTransfer h
  case h_8 =>
    split at h <;> cases h
    · rfl
    · exact condition_decodeCpRegister ..

end Classes

/-- An instruction's condition is the one bits 31:28 of its word hold, none for 1111 (R144, R129). -/
theorem condition_of_decode {w : Word} {i : Instr} (h : decode w = .ok i) : condition i = Cond.ofBits (nibble w 7) := by
  unfold decode decodeNibbles at h
  split at h
  case h_1 c hc => rw [hc]; exact condition_of_decodeConditional h
  case h_2 hc =>
    split at h <;> cases h
    exact hc.symm

end Sys2Proof.Machine

/-! ## An instruction that does not execute (R141, R146)

The meaning of every instruction is a body in one of two frames, and both pass the instruction over where it does not execute. -/

namespace Sys2Proof.Machine

open Sys2Proof.Claims

/-- An instruction other than those of a coprocessor is its body in the frame `guarded`. -/
theorem exec_guarded {i : Instr} (h : isCoprocessor i = none) : ∃ body, ∀ s, exec i s = guarded i s body := by
  cases i with
  | ldcOffset | ldcPostUp | ldcPostDown | stcOffset | stcPostUp | stcPostDown | cdp | mcr | mrc => cases h
  | _ => exact ⟨_, fun _ => rfl⟩

/-- A coprocessor instruction is its body in the frame `offered`. -/
theorem exec_offered {i : Instr} {cp : BitVec 4} (h : isCoprocessor i = some cp) :
    ∃ body, ∀ s, exec i s = offered i cp s body := by
  cases i with
  | ldcOffset | ldcPostUp | ldcPostDown | stcOffset | stcPostUp | stcPostDown | cdp | mcr | mrc =>
    cases h; exact ⟨_, fun _ => rfl⟩
  | _ => cases h

theorem offered_skipped {i : Instr} {cp : BitVec 4} {s : State} (h : runs i s = false)
    (body : Word → List Word → State → Result) : offered i cp s body = skip s := by simp [offered, h]

/-- An instruction that does not execute is passed over, whatever it is. -/
theorem exec_skipped {i : Instr} {s : State} (h : runs i s = false) : exec i s = skip s := by
  cases hcp : isCoprocessor i with
  | none =>
    obtain ⟨body, hbody⟩ := exec_guarded hcp
    rw [hbody, guarded_skipped h]
  | some cp =>
    obtain ⟨body, hbody⟩ := exec_offered hcp
    rw [hbody, offered_skipped h]

/-- A condition that fails keeps its instruction from executing (R145). -/
theorem runs_of_condition_fails {i : Instr} {c : Cond} {s : State} (hc : condition i = some c)
    (hfails : conditionHolds c s.cpsr = false) : runs i s = false := by
  simp only [runs, hc, hfails]

theorem execWord_undecoded {w : Word} {e : DecodeError} {s : State} (h : decode w = .error e) :
    execWord w s = settle (execUndefined w s) := by simp [execWord, h]

/-- A word that is no instruction is passed over when its condition fails. -/
theorem execUndefined_of_condition_fails {w : Word} {c : Cond} {s : State} (hc : Cond.ofBits (nibble w 7) = some c)
    (hfails : conditionHolds c s.cpsr = false) : execUndefined w s = skip s := by
  simp only [execUndefined, hc, hfails, Bool.false_eq_true, if_false]

/-- A word whose condition fails is passed over, instruction or not (R146). -/
theorem execWord_of_condition_fails {w : Word} {c : Cond} {s : State} (hc : Cond.ofBits (nibble w 7) = some c)
    (hfails : conditionHolds c s.cpsr = false) : execWord w s = settle (skip s) := by
  cases hd : decode w with
  | ok i =>
    have hi : condition i = some c := (condition_of_decode hd).trans hc
    rw [execWord_decoded hd, exec_skipped (runs_of_condition_fails hi hfails)]
  | error e => rw [execWord_undecoded hd, execUndefined_of_condition_fails hc hfails]

/-! ### The step with no event to take -/

/-- The address after a word-aligned one is word aligned, also where it wraps round. -/
theorem add_four_low_bits {v : Word} (h : v.extractLsb' 0 2 = 0b00#2) : (v + 4).extractLsb' 0 2 = 0b00#2 := by
  have hv : v.toNat % 4 = 0 := by simpa using congrArg BitVec.toNat h
  exact BitVec.eq_of_toNat_eq (by simpa using hv)

/-- Passing over a word leaves the pc word aligned, so that the end of the step changes nothing. -/
theorem settle_skip {s : State} (ha : s.pc.extractLsb' 0 2 = 0b00#2) (htop : s.pc.toNat < 0xFFFFFFFC) :
    settle (skip s) = .next { s with pc := s.pc + 4, userBankWindow := false } := by
  rw [skip_next.2 ⟨htop, rfl⟩]
  exact congrArg Host.Outcome.next (State.aligned_eq (.inr (add_four_low_bits ha)))

/-- Where no event is due the pc is word aligned, before and after the sample is taken. -/
theorem pc_low_bits_of_noEvent {s : State} (h : NoEvent s) : s.sampled.pc.extractLsb' 0 2 = 0b00#2 := by
  obtain ⟨-, -, -, -, haligned⟩ := h
  exact haligned

/-- Where no event is due a step fetches and executes (R141 steps 5 to 9). -/
theorem step_of_noEvent {s : State} (h : NoEvent s) : step s = fetchAndExecute s.sampled := by
  obtain ⟨hreset, hT, hfiq, hirq, -⟩ := h
  simp only [step, cycle, interrupted, State.sampled_cpsr, hreset, hT, hfiq, hirq, Bool.false_eq_true, if_false]

@[simp] theorem fetch_sampled (s : State) : fetch s.sampled = fetch s := rfl

/-- Where no event is due a step executes the word it fetches. -/
theorem step_of_fetch {s : State} {w : Word} (h : NoEvent s) (hf : fetch s = some w) : step s = execWord w s.sampled := by
  rw [step_of_noEvent h, fetchAndExecute_aligned ((fetch_sampled s).trans hf) (pc_low_bits_of_noEvent h)]

end Sys2Proof.Machine

namespace Sys2Proof.Proofs

open Sys2Proof.Machine

/-- Settles O7: R145 on a field that holds a condition is the test of that condition, and R144 is the test's definition. -/
theorem conditionTable : Obligations.ConditionTable := by
  refine ⟨?passed, ?reserved, ?rows⟩
  case passed =>
    intro b p hb
    obtain ⟨c, rfl⟩ := Cond.exists_bits_eq hb
    exact ⟨c, Cond.ofBits_bits c, (conditionPassed_bits c p).symm⟩
  case reserved => rfl
  case rows =>
    intro p
    refine ⟨.rfl, ?ne, .rfl, ?cc, .rfl, ?pl, .rfl, ?vc, ?hi, ?ls, ?ge, ?lt, ?gt, ?le, rfl⟩
    case ne | cc | pl | vc => simp only [conditionHolds, Bool.not_eq_true']
    case hi => simp only [conditionHolds, Bool.and_eq_true, Bool.not_eq_true']
    case ls => simp only [conditionHolds, Bool.not_and, Bool.not_not, Bool.or_eq_true, Bool.not_eq_true']
    case ge => simp only [conditionHolds, beq_iff_eq]
    case lt => simp only [conditionHolds, Bool.not_eq_true', beq_eq_false_iff_ne]
    case gt => simp only [conditionHolds, Bool.and_eq_true, Bool.not_eq_true', beq_iff_eq, and_comm]
    case le =>
      simp only [conditionHolds, Bool.not_and, Bool.not_not, Bool.or_eq_true, Bool.not_eq_true', beq_eq_false_iff_ne, or_comm]

/-- Settles O17: a word whose condition fails is passed over, by the decoded instruction's frame or as a word that is no instruction,
and a fetch that aborts takes its exception before any condition is looked at. -/
theorem failedConditionOnlyAdvances : Obligations.FailedConditionOnlyAdvances := by
  refine ⟨?fails, ?aborts⟩
  case fails =>
    intro s w c hcalm hfetch hc hfails htop
    calc step s = execWord w s.sampled := step_of_fetch hcalm hfetch
      _ = settle (skip s.sampled) := execWord_of_condition_fails hc hfails
      _ = .next { s.sampled with pc := s.pc + 4, userBankWindow := false } := settle_skip (pc_low_bits_of_noEvent hcalm) htop
  case aborts =>
    intro s hcalm hfetch
    rw [step_of_noEvent hcalm, fetchAndExecute_aborted ((fetch_sampled s).trans hfetch)]

end Sys2Proof.Proofs

/-! ## The second operand (R8, R192 to R194)

The model's shifts are the library's shifts of words, except RRX, which is bit 31 put above bits 31:1. With that each row of the
tables of R193 and R194 is one equation. -/

namespace Sys2Proof.Machine

/-! ### The shifts (R8) -/

@[simp] theorem lsl_eq_shiftLeft (v : Word) (n : Nat) : lsl v n = v <<< n :=
  BitVec.eq_of_toNat_eq (by simp [lsl, Nat.shiftLeft_eq])

@[simp] theorem lsr_eq_ushiftRight (v : Word) (n : Nat) : lsr v n = v >>> n := by
  have hlt : v.toNat / 2 ^ n < 2 ^ 32 := (Nat.div_le_self _ _).trans_lt v.isLt
  refine BitVec.eq_of_toNat_eq ?_
  rw [lsr, BitVec.toNat_ofNat, Nat.mod_eq_of_lt hlt, BitVec.toNat_ushiftRight, Nat.shiftRight_eq_div_pow]

@[simp] theorem asr_eq_sshiftRight (v : Word) (n : Nat) : asr v n = v.sshiftRight n := by
  rw [asr, BitVec.sshiftRight, Int.shiftRight_eq_div_pow, Nat.cast_pow, Nat.cast_ofNat]

@[simp] theorem ror_eq_rotateRight (v : Word) (n : Nat) : ror v n = v.rotateRight n := by
  rw [ror, lsr_eq_ushiftRight, lsl_eq_shiftLeft, BitVec.rotateRight_def]

@[simp] theorem rrx_eq_append (v : Word) (c : Bool) : rrx v c = BitVec.ofBool c ++ v.extractLsb' 1 31 := by
  have hcarry : (if c then 0x80000000 else 0 : Word) = BitVec.ofBool c ++ 0#31 := by cases c <;> rfl
  have hshift : v >>> 1 = 0#1 ++ v.extractLsb' 1 31 := by simp [BitVec.ushiftRight_eq_extractLsb'_of_lt]
  rw [rrx, lsr_eq_ushiftRight, hcarry, hshift, BitVec.or_append, BitVec.or_zero, BitVec.zero_or]

@[simp] theorem rotatedImmediate_eq_rotateRight (rot : BitVec 4) (imm : BitVec 8) :
    rotatedImmediate rot imm = (imm.setWidth 32 : Word).rotateRight (2 * rot.toNat) :=
  ror_eq_rotateRight ..

/-! ### Shifts by an immediate (R193, R265) -/

section ShiftByImmediate

variable (rm : Word) (c : Bool)

/-- Amount 0 stands for no shift, LSR #32, ASR #32 and RRX. -/
theorem shiftImmOperand_zero :
    shiftImmOperand .lsl 0 rm c = ⟨rm, c⟩ ∧ shiftImmOperand .lsr 0 rm c = ⟨0, rm.getLsbD 31⟩ ∧
    shiftImmOperand .asr 0 rm c = ⟨signFill rm, rm.getLsbD 31⟩ ∧
    shiftImmOperand .ror 0 rm c = ⟨BitVec.ofBool c ++ rm.extractLsb' 1 31, rm.getLsbD 0⟩ := by
  rw [← rrx_eq_append]
  exact ⟨rfl, rfl, rfl, rfl⟩

theorem shiftImmOperand_of_ne_zero {n : BitVec 5} (hn : n ≠ 0) :
    shiftImmOperand .lsl n rm c = ⟨rm <<< n.toNat, rm.getLsbD (32 - n.toNat)⟩ ∧
    shiftImmOperand .lsr n rm c = ⟨rm >>> n.toNat, rm.getLsbD (n.toNat - 1)⟩ ∧
    shiftImmOperand .asr n rm c = ⟨rm.sshiftRight n.toNat, rm.getLsbD (n.toNat - 1)⟩ ∧
    shiftImmOperand .ror n rm c = ⟨rm.rotateRight n.toNat, rm.getLsbD (n.toNat - 1)⟩ := by
  have h0 : n.toNat ≠ 0 := fun h => hn (BitVec.eq_of_toNat_eq h)
  simp [shiftImmOperand, h0]

/-- The offset of a transfer is the value column; only LSL by 0 has no row of its own in R265. -/
theorem scaledOffset_eq_value (kind : ShiftKind) (n : BitVec 5) :
    scaledOffset kind n rm c = (shiftImmOperand kind n rm c).value := by
  cases kind with
  | lsl => by_cases h0 : n.toNat = 0 <;> simp [scaledOffset, shiftImmOperand, h0]
  | lsr | asr | ror => simp only [scaledOffset, shiftImmOperand, apply_ite Operand.value]

end ShiftByImmediate

/-! ### Shifts by a register (R194)

`n` is the low byte of Rs. -/

/-- The model takes the low byte as a remainder, the table of R194 as bits 7:0. -/
theorem toNat_mod_256_eq_lowByte (rs : Word) : rs.toNat % 256 = (rs.extractLsb' 0 8).toNat := by simp

section ShiftByRegister

variable {rs : Word} {n : Nat} (hn : rs.toNat % 256 = n) (rm : Word) (c : Bool)

include hn

theorem shiftRegOperand_of_zero (h0 : n = 0) (kind : ShiftKind) : shiftRegOperand kind rs rm c = ⟨rm, c⟩ := by
  simp only [shiftRegOperand, hn, h0, if_true]

theorem shiftRegOperand_of_lt_32 (h0 : n ≠ 0) (h32 : n < 32) :
    shiftRegOperand .lsl rs rm c = ⟨rm <<< n, rm.getLsbD (32 - n)⟩ ∧
    shiftRegOperand .lsr rs rm c = ⟨rm >>> n, rm.getLsbD (n - 1)⟩ ∧
    shiftRegOperand .asr rs rm c = ⟨rm.sshiftRight n, rm.getLsbD (n - 1)⟩ := by
  simp [shiftRegOperand, hn, h0, h32]

theorem shiftRegOperand_of_eq_32 (h32 : n = 32) :
    shiftRegOperand .lsl rs rm c = ⟨0, rm.getLsbD 0⟩ ∧ shiftRegOperand .lsr rs rm c = ⟨0, rm.getLsbD 31⟩ := by
  simp [shiftRegOperand, hn, h32]

theorem shiftRegOperand_of_gt_32 (h33 : 32 < n) :
    shiftRegOperand .lsl rs rm c = ⟨0, false⟩ ∧ shiftRegOperand .lsr rs rm c = ⟨0, false⟩ := by
  have h0 : n ≠ 0 := by omega
  simp [shiftRegOperand, hn, h0, h33.ne', h33.not_gt]

theorem shiftRegOperand_asr_of_ge_32 (h32 : 32 ≤ n) : shiftRegOperand .asr rs rm c = ⟨signFill rm, rm.getLsbD 31⟩ := by
  have h0 : n ≠ 0 := by omega
  simp [shiftRegOperand, hn, h0, h32.not_gt]

theorem shiftRegOperand_ror_of_mod_eq_zero (h0 : n ≠ 0) (hmod : n % 32 = 0) :
    shiftRegOperand .ror rs rm c = ⟨rm, rm.getLsbD 31⟩ := by
  simp only [shiftRegOperand, hn, h0, hmod, if_false, if_true]

theorem shiftRegOperand_ror_of_mod_ne_zero (hmod : n % 32 ≠ 0) :
    shiftRegOperand .ror rs rm c = ⟨rm.rotateRight (n % 32), rm.getLsbD (n % 32 - 1)⟩ := by
  have h0 : n ≠ 0 := by rintro rfl; exact hmod rfl
  simp only [shiftRegOperand, hn, h0, hmod, if_false, ror_eq_rotateRight]

end ShiftByRegister

end Sys2Proof.Machine

namespace Sys2Proof.Proofs

open Sys2Proof.Machine

/-- Settles O25: the rotated immediate is a rotation of the zero-extended byte, and the two rows of each shift by an immediate are
amount 0 and the rest. -/
theorem immediateOperandsFollowTheTables : Obligations.ImmediateOperandsFollowTheTables := by
  refine ⟨?immediate, fun n rm c => ⟨?zero, ?nonzero, ?offset⟩⟩
  case immediate =>
    intro rot imm c
    rw [← rotatedImmediate_eq_rotateRight]
    exact ⟨rfl, rfl⟩
  case zero => rintro rfl; exact shiftImmOperand_zero rm c
  case nonzero => exact shiftImmOperand_of_ne_zero rm c
  case offset => exact fun kind => scaledOffset_eq_value rm c kind n

/-- Settles O26: the rows of the table of R194, by the value of the low byte of Rs. -/
theorem shiftByRegisterTable : Obligations.ShiftByRegisterTable := by
  intro rs rm c n
  have hn : rs.toNat % 256 = n := toNat_mod_256_eq_lowByte rs
  refine ⟨?zero, ?below32, ?at32, ?above32, ?asrFrom32, ?rorMultiple, ?rorOther⟩
  case zero => exact shiftRegOperand_of_zero hn rm c
  case below32 => exact fun h1 h31 => shiftRegOperand_of_lt_32 hn rm c (by omega) (by omega)
  case at32 => exact shiftRegOperand_of_eq_32 hn rm c
  case above32 => exact shiftRegOperand_of_gt_32 hn rm c
  case asrFrom32 => exact shiftRegOperand_asr_of_ge_32 hn rm c
  case rorMultiple => exact shiftRegOperand_ror_of_mod_eq_zero hn rm c
  case rorOther => exact shiftRegOperand_ror_of_mod_ne_zero hn rm c

end Sys2Proof.Proofs

/-! ## The addressing modes of LDM and STM (R311)

The model adds and subtracts words; the table of R311 counts in the integers and takes the result modulo 2^32. `BitVec.ofInt 32`
carries the sums and differences of the table over to words, and there each row is an identity of the ring of words. -/

namespace Sys2Proof.Machine

open Sys2Proof.Claims

/-! ### Integer sums modulo 2^32 -/

theorem ofInt_sub {w : Nat} (x y : Int) : BitVec.ofInt w (x - y) = BitVec.ofInt w x - BitVec.ofInt w y :=
  Int.cast_sub x y

@[simp] theorem ofInt_toNat {w : Nat} (v : BitVec w) : BitVec.ofInt w v.toNat = v := by
  rw [BitVec.ofInt_natCast, BitVec.ofNat_toNat, BitVec.setWidth_eq]

/-- The size in bytes of `n` words. -/
theorem ofInt_four_mul (n : Nat) : BitVec.ofInt 32 (4 * n) = BitVec.ofNat 32 (4 * n) :=
  BitVec.ofInt_natCast 32 (4 * n)

section AddressTable

variable (base : Word) (n : Nat)

theorem ofInt_add_words : BitVec.ofInt 32 ((base.toNat : Int) + 4 * n) = base + BitVec.ofNat 32 (4 * n) := by
  rw [BitVec.ofInt_add, ofInt_toNat, ofInt_four_mul]

theorem ofInt_sub_words : BitVec.ofInt 32 ((base.toNat : Int) - 4 * n) = base - BitVec.ofNat 32 (4 * n) := by
  rw [ofInt_sub, ofInt_toNat, ofInt_four_mul]

/-! ### The rows of the table -/

@[simp] theorem startAddress_incrementAfter : startAddress false true base n = base := rfl

@[simp] theorem startAddress_incrementBefore : startAddress true true base n = base + 4 := rfl

@[simp] theorem startAddress_decrementAfter : startAddress false false base n = base - BitVec.ofNat 32 (4 * n) + 4 := rfl

@[simp] theorem startAddress_decrementBefore : startAddress true false base n = base - BitVec.ofNat 32 (4 * n) := rfl

@[simp] theorem newBase_increment : newBase true base n = base + BitVec.ofNat 32 (4 * n) := rfl

@[simp] theorem newBase_decrement : newBase false base n = base - BitVec.ofNat 32 (4 * n) := rfl

end AddressTable

/-- The last of `n` words lies four bytes below the end of the block. -/
theorem blockAddress_last (start : Word) {n : Nat} (hn : 1 ≤ n) :
    blockAddress start (n - 1) = start + BitVec.ofNat 32 (4 * n) - 4 := by
  obtain ⟨k, rfl⟩ := Nat.exists_eq_add_of_le' hn
  rw [blockAddress, Nat.add_sub_cancel, Nat.mul_succ, BitVec.ofNat_add, ← add_assoc]
  exact (add_sub_cancel_right _ _).symm

end Sys2Proof.Machine

namespace Sys2Proof.Proofs

open Sys2Proof.Machine

/-- Settles O49: the start addresses and new bases are the rows of the table, and the end address of each mode is that of the last
word from its start address. -/
theorem blockAddressTable : Obligations.BlockAddressTable := by
  intro base n
  refine ⟨startAddress_incrementAfter base n, startAddress_incrementBefore base n, ?startDA, ?startDB, ?increment, ?decrement,
    fun hn => ⟨?endIA, ?endIB, ?endDA, ?endDB⟩⟩
  case startDA => rw [BitVec.ofInt_add, ofInt_sub_words, startAddress_decrementAfter]; rfl
  case startDB => rw [ofInt_sub_words, startAddress_decrementBefore]
  case increment => rw [ofInt_add_words, newBase_increment]
  case decrement => rw [ofInt_sub_words, newBase_decrement]
  case endIA => rw [blockAddress_last _ hn, ofInt_sub, ofInt_add_words, startAddress_incrementAfter]; rfl
  case endIB => rw [blockAddress_last _ hn, ofInt_add_words, startAddress_incrementBefore]; ring
  case endDA => rw [blockAddress_last _ hn, startAddress_decrementAfter]; ring
  case endDB => rw [blockAddress_last _ hn, startAddress_decrementBefore]; ring

end Sys2Proof.Proofs

/-! ## Entering an exception (R410 to R412)

What R410 asks of each exception, read off the row R400 and R411 give it. Reset has the same entry procedure as the other six, with
free values for the link and the saved status. -/

namespace Sys2Proof.Machine

open Sys2Proof.Claims

/-! ### The rows of the exceptions -/

/-- The table of R400 gives each exception its mode and its vector. -/
theorem entryRow_eq (e : ExceptionKind) : entryRow e = (e.mode, e.offset) := by cases e <;> rfl

/-- Reset and FIQ alone mask FIQ (R410). -/
theorem ExceptionKind.masksFiq_iff {e : ExceptionKind} : e.masksFiq = true ↔ e = .reset ∨ e = .fiq := by cases e <;> decide

/-- The return link stands 8 bytes on after a Data Abort and 4 bytes on otherwise (R411). -/
theorem ExceptionKind.linkOffset_eq (e : ExceptionKind) : e.linkOffset = if e = .dataAbort then 8 else 4 := by cases e <;> rfl

/-- The vectors move to the top of the address space together (R400). -/
theorem State.vector_eq (s : State) (e : ExceptionKind) :
    s.vector e = e.offset + (if s.cfg.highVectors then 0xFFFF0000 else 0) := by
  unfold State.vector
  split
  · exact add_comm _ _
  · exact (add_zero _).symm

/-! ### The CPSR -/

/-- Bits 31:8, the flags and the reserved bits, are unchanged. -/
@[simp] theorem psrOnEntry_high_bits (p : Word) (m : Mode) (f : Bool) :
    (psrOnEntry p m f).extractLsb' 8 24 = p.extractLsb' 8 24 := by
  unfold psrOnEntry
  iterate 4 rw [BitVec.extractLsb'_append_eq_of_le (by decide)]
  exact BitVec.extractLsb'_eq_self

/-- F is set by Reset and FIQ and unchanged by the others. -/
theorem psrF_enterException (e : ExceptionKind) (l p : Word) (s : State) :
    psrF (enterException e l p s).cpsr = (if e = .reset ∨ e = .fiq then true else psrF s.cpsr) := by
  simp only [enterException_cpsr, psrF_onEntry, ← ExceptionKind.masksFiq_iff]
  cases e.masksFiq <;> rfl

/-! ### The SPSRs -/

/-- A write to the SPSR of one mode leaves what every other mode reads as its own. -/
theorem State.setSpsr_other (s : State) {m m' : Mode} (v p : Word) (hp : psrMode p = m'.bits) (h : m' ≠ m) :
    State.currentSpsr { s.setSpsr (some m) v with cpsr := p } = State.currentSpsr { s with cpsr := p } := by
  simp only [State.currentSpsr, State.mode, hp, Mode.ofBits_bits]
  cases m <;> cases m' <;> try rfl
  case fiq.fiq | irq.irq | supervisor.supervisor | abort.abort | undefined.undefined => exact absurd rfl h

theorem enterException_spsr (e : ExceptionKind) (l p : Word) (s : State) :
    (enterException e l p s).spsr = (s.setSpsr (some e.mode) p).spsr := by cases e <;> rfl

/-- No SPSR but that of the mode entered changes. -/
theorem enterException_other_spsr (e : ExceptionKind) (l p : Word) (s : State) {m : Mode} (hm : m ≠ e.mode) :
    State.currentSpsr { enterException e l p s with cpsr := m.bits.setWidth 32 } =
      State.currentSpsr { s with cpsr := m.bits.setWidth 32 } := by
  have hbits : psrMode (m.bits.setWidth 32) = m.bits := by cases m <;> rfl
  rw [← State.setSpsr_other s p _ hbits hm]
  simp only [State.currentSpsr, State.mode, enterException_spsr]

/-! ### One procedure for the seven -/

/-- Every entry is the procedure of R410: for Reset after two free values have been drawn, for the others with the link of R411 and the
old CPSR. -/
theorem entry_eq_enterException (e : ExceptionKind) (s : State) :
    ∃ link saved n, (if e = .reset then takeReset s else takeException e s) = enterException e link saved { s with draws := n } ∧
      (e ≠ .reset → link = s.pc + e.linkOffset ∧ saved = s.cpsr) := by
  by_cases he : e = .reset
  · exact ⟨_, _, _, by rw [if_pos he, he]; rfl, fun hne => absurd he hne⟩
  · exact ⟨_, _, s.draws, if_neg he, fun _ => ⟨rfl, rfl⟩⟩

end Sys2Proof.Machine

namespace Sys2Proof.Proofs

open Sys2Proof.Machine

/-- Settles O13: the clauses of R410 are the laws of the entry procedure, which all seven exceptions share; the link and the saved status
are those of R411 for all but Reset. -/
theorem exceptionEntry : Obligations.ExceptionEntry := by
  intro e s
  obtain ⟨link, saved, n, hentry, hlink⟩ := entry_eq_enterException e s
  rw [hentry, entryRow_eq]
  refine ⟨?linkAndSpsr, enterException_mode .., psrT_onEntry .., psrI_onEntry .., psrF_enterException .., psrOnEntry_high_bits ..,
    State.vector_eq .., ?registers, fun m hm => enterException_other_spsr _ _ _ _ hm, enterException_mem .., enterException_cfg ..,
    enterException_lines .., enterException_cpReplies .., enterException_cpSent ..⟩
  case linkAndSpsr =>
    intro he
    obtain ⟨rfl, rfl⟩ := hlink he
    rw [← ExceptionKind.linkOffset_eq]
    exact ⟨enterException_link .., enterException_currentSpsr ..⟩
  case registers =>
    intro q hpc hlr
    rw [enterException_other _ _ _ _ hpc hlr]
    exact State.getPhys_of_banks rfl hpc

end Sys2Proof.Proofs

/-! ## Encoding and decoding (R102 to R127)

A word is its eight nibbles. For O1 the nibbles of each format of the encoder give its fields back to the decoder's branch for that
format; for O2 the branch the decoder took fixes the nibbles the encoder puts together. -/

namespace Sys2Proof

/-! ### Fields of a nibble -/

@[simp] theorem class_append_bit (k : BitVec 3) (b : Bool) : (k ++ bit b : BitVec 4).extractLsb' 1 3 = k := by
  revert k b; decide

@[simp] theorem low_append_bit (k : BitVec 3) (b : Bool) : (k ++ bit b : BitVec 4).getLsbD 0 = b := by
  revert k b; decide

@[simp] theorem getLsbD_bits (b3 b2 b1 b0 : Bool) :
    (bit b3 ++ bit b2 ++ bit b1 ++ bit b0 : BitVec 4).getLsbD 3 = b3 ∧
    (bit b3 ++ bit b2 ++ bit b1 ++ bit b0 : BitVec 4).getLsbD 2 = b2 ∧
    (bit b3 ++ bit b2 ++ bit b1 ++ bit b0 : BitVec 4).getLsbD 1 = b1 ∧
    (bit b3 ++ bit b2 ++ bit b1 ++ bit b0 : BitVec 4).getLsbD 0 = b0 := by
  revert b3 b2 b1 b0; decide

/-! ### The decoder on each format of the encoder -/

section Formats

variable (c : Cond)

/-- Bits 27:23 are 00x10 and bit 20 is 0 for no data-processing instruction: TST, TEQ, CMP and CMN have S = 1 (R103). -/
def isDpRow (op : BitVec 4) (sf : Bool) : Prop := op.extractLsb' 2 2 = 0b10#2 → sf = true

theorem dpRow_fields (op : BitVec 4) (sf : Bool) :
    (op.extractLsb' 0 3 ++ bit sf : BitVec 4).getLsbD 0 = sf ∧
    (0b000#3 ++ op.extractLsb' 3 1 : BitVec 4).extractLsb' 1 3 = 0b000#3 ∧
    (0b001#3 ++ op.extractLsb' 3 1 : BitVec 4).extractLsb' 1 3 = 0b001#3 ∧
    ((0b000#3 ++ op.extractLsb' 3 1 : BitVec 4).extractLsb' 0 1 ++ (op.extractLsb' 0 3 ++ bit sf : BitVec 4).extractLsb' 1 3 : BitVec 4) = op ∧
    ((0b001#3 ++ op.extractLsb' 3 1 : BitVec 4).extractLsb' 0 1 ++ (op.extractLsb' 0 3 ++ bit sf : BitVec 4).extractLsb' 1 3 : BitVec 4) = op := by
  revert op sf; decide

theorem isControl_dpRow {op : BitVec 4} {sf : Bool} (h : isDpRow op sf) (k : BitVec 3) :
    isControl (k ++ op.extractLsb' 3 1) (op.extractLsb' 0 3 ++ bit sf) = false := by
  unfold isDpRow at h; revert k op sf; decide

/-- The fields of bits 11:4 of a register operand shifted by an immediate. -/
theorem shiftImm_fields (a : BitVec 5) (k : BitVec 2) :
    (a.extractLsb' 0 1 ++ k ++ 0b0#1 : BitVec 4).getLsbD 0 = false ∧
    (a.extractLsb' 0 1 ++ k ++ 0b0#1 : BitVec 4).extractLsb' 1 2 = k ∧
    (a.extractLsb' 1 4 ++ (a.extractLsb' 0 1 ++ k ++ 0b0#1 : BitVec 4).extractLsb' 3 1 : BitVec 5) = a := by
  revert a k; decide

theorem shiftReg_fields (k : BitVec 2) :
    (0b0#1 ++ k ++ 0b1#1 : BitVec 4).getLsbD 3 = false ∧ (0b0#1 ++ k ++ 0b1#1 : BitVec 4).getLsbD 0 = true ∧
    (0b0#1 ++ k ++ 0b1#1 : BitVec 4).extractLsb' 1 2 = k := by
  revert k; decide

theorem shiftReg_kind (k : ShiftKind) : ShiftKind.ofBits ((0b0#1 ++ k.bits ++ 0b1#1 : BitVec 4).extractLsb' 1 2) = k := by
  rw [(shiftReg_fields k.bits).2.2, ShiftKind.ofBits_bits]

/-- The two parts of a nibble that holds a coprocessor opcode of three bits. -/
theorem opcode3_fields (op : BitVec 3) (x : BitVec 1) :
    (op ++ x : BitVec 4).getLsbD 0 = x.getLsbD 0 ∧ (op ++ x : BitVec 4).extractLsb' 1 3 = op := by
  revert op x; decide

/-- Bit 15 of a list, and the fifteen bits below it. -/
theorem list15_fields (x : BitVec 1) (list : BitVec 15) :
    ((x ++ list : BitVec 16).extractLsb' 12 4).getLsbD 3 = x.getLsbD 0 ∧
    (((x ++ list : BitVec 16).extractLsb' 12 4).extractLsb' 0 3 ++ (x ++ list : BitVec 16).extractLsb' 8 4 ++
      (x ++ list : BitVec 16).extractLsb' 4 4 ++ (x ++ list : BitVec 16).extractLsb' 0 4 : BitVec 15) = list := by
  constructor
  · rw [BitVec.getLsbD_extractLsb', BitVec.getLsbD_append]; rfl
  · apply BitVec.eq_of_getLsbD_eq; intro i hi
    simp only [BitVec.getLsbD_append, BitVec.getLsbD_extractLsb']; interval_cases i <;> simp

theorem decode_encDpImm {op : BitVec 4} {sf : Bool} (h : isDpRow op sf) (r1 r2 : RegNo) (rot : BitVec 4) (imm : BitVec 8) :
    decode (encDpImm c op sf r1 r2 rot imm) = .ok (decodeDpImm c op sf r1 r2 rot (imm.extractLsb' 4 4) (imm.extractLsb' 0 4)) := by
  obtain ⟨hs, -, hclass, -, hop⟩ := dpRow_fields op sf
  simp only [encDpImm, decode_pack, decodeNibbles, Cond.ofBits_bits, decodeConditional, hclass, decodeClass001, isControl_dpRow h,
    Bool.false_eq_true, if_false, hs, hop]

theorem decode_encDpShiftImm {op : BitVec 4} {sf : Bool} (h : isDpRow op sf) (r1 r2 : RegNo) (amount : BitVec 5) (kind : ShiftKind)
    (rm : RegNo) :
    decode (encDpShiftImm c op sf r1 r2 amount kind rm) =
      .ok (decodeDpShiftImm c op sf r1 r2 (amount.extractLsb' 1 4) (amount.extractLsb' 0 1 ++ kind.bits ++ 0b0#1) rm) := by
  obtain ⟨hs, hclass, -, hop, -⟩ := dpRow_fields op sf
  obtain ⟨hlow, -, -⟩ := shiftImm_fields amount kind.bits
  simp only [encDpShiftImm, decode_pack, decodeNibbles, Cond.ofBits_bits, decodeConditional, hclass, decodeClass000, isControl_dpRow h,
    hlow, Bool.and_false, Bool.false_eq_true, if_false, hs, hop]

theorem decode_encDpShiftReg {op : BitVec 4} {sf : Bool} (h : isDpRow op sf) (r1 r2 rs : RegNo) (kind : ShiftKind) (rm : RegNo) :
    decode (encDpShiftReg c op sf r1 r2 rs kind rm) =
      .ok (decodeDpShiftReg c op sf r1 r2 rs (0b0#1 ++ kind.bits ++ 0b1#1) rm) := by
  obtain ⟨hs, hclass, -, hop, -⟩ := dpRow_fields op sf
  obtain ⟨hhigh, hlow, -⟩ := shiftReg_fields kind.bits
  simp only [encDpShiftReg, decode_pack, decodeNibbles, Cond.ofBits_bits, decodeConditional, hclass, decodeClass000, isControl_dpRow h,
    hhigh, hlow, Bool.false_and, Bool.false_eq_true, if_false, if_true, hs, hop]

theorem decode_encSingleImm (p u b w l : Bool) (rn rd : RegNo) (imm : BitVec 12) :
    decode (encSingleImm c p u b w l rn rd imm) =
      .ok (decodeSingleImm c (0b010#3 ++ bit p) (bit u ++ bit b ++ bit w ++ bit l) rn rd imm) := by
  simp only [encSingleImm, decode_pack, decodeNibbles, Cond.ofBits_bits, decodeConditional, class_append_bit, nibbles_12]

theorem decode_encSingleReg (p u b w l : Bool) (rn rd : RegNo) (amount : BitVec 5) (kind : ShiftKind) (rm : RegNo) :
    decode (encSingleReg c p u b w l rn rd amount kind rm) =
      .ok (decodeSingleReg c (0b011#3 ++ bit p) (bit u ++ bit b ++ bit w ++ bit l) rn rd amount kind rm) := by
  obtain ⟨hlow, hkind, hamount⟩ := shiftImm_fields amount kind.bits
  simp only [encSingleReg, decode_pack, decodeNibbles, Cond.ofBits_bits, decodeConditional, class_append_bit, hlow, hkind, hamount,
    ShiftKind.ofBits_bits, Bool.false_eq_true, if_false]

theorem decode_encMultiple (p u s w l : Bool) (rn : RegNo) (list : BitVec 16) :
    decode (encMultiple c p u s w l rn list) =
      .ok (decodeMultiple c (0b100#3 ++ bit p) (bit u ++ bit s ++ bit w ++ bit l) rn (list.extractLsb' 12 4) (list.extractLsb' 8 4)
        (list.extractLsb' 4 4) (list.extractLsb' 0 4)) := by
  simp only [encMultiple, decode_pack, decodeNibbles, Cond.ofBits_bits, decodeConditional, class_append_bit]

theorem decode_encCpTransfer (p u n w l : Bool) (rn crd cp : BitVec 4) (imm : BitVec 8) :
    decode (encCpTransfer c p u n w l rn crd cp imm) =
      decodeCpTransfer c (0b110#3 ++ bit p) (bit u ++ bit n ++ bit w ++ bit l) rn crd cp (imm.extractLsb' 4 4)
        (imm.extractLsb' 0 4) := by
  simp only [encCpTransfer, decode_pack, decodeNibbles, Cond.ofBits_bits, decodeConditional, class_append_bit]

theorem decode_cpRegister (n5 n4 n3 n2 n1 n0 : BitVec 4) :
    decode (pack c.bits 0b1110 n5 n4 n3 n2 n1 n0) = .ok (decodeCpRegister c n5 n4 n3 n2 n1 n0) := by
  rw [decode_pack, decodeNibbles, Cond.ofBits_bits]; rfl

end Formats

theorem decode_encode (i : Instr) : decode (encode i) = .ok i := by
  cases i with
  | andImm | eorImm | subImm | rsbImm | addImm | adcImm | sbcImm | rscImm | orrImm | movImm | bicImm | mvnImm =>
    rw [encode, decode_encDpImm _ fun h => absurd h (by decide)]
    unfold decodeDpImm; rw [byte_nibbles]; rfl
  | tstImm | teqImm | cmpImm | cmnImm =>
    rw [encode, decode_encDpImm _ fun _ => rfl]
    unfold decodeDpImm; rw [byte_nibbles]; rfl
  | andShiftImm _ _ _ _ amount kind | eorShiftImm _ _ _ _ amount kind | subShiftImm _ _ _ _ amount kind
  | rsbShiftImm _ _ _ _ amount kind | addShiftImm _ _ _ _ amount kind | adcShiftImm _ _ _ _ amount kind
  | sbcShiftImm _ _ _ _ amount kind | rscShiftImm _ _ _ _ amount kind | orrShiftImm _ _ _ _ amount kind
  | movShiftImm _ _ _ _ amount kind | bicShiftImm _ _ _ _ amount kind | mvnShiftImm _ _ _ _ amount kind =>
    obtain ⟨-, hkind, hamount⟩ := shiftImm_fields amount kind.bits
    rw [encode, decode_encDpShiftImm _ fun h => absurd h (by decide)]
    unfold decodeDpShiftImm; rw [hkind, hamount, ShiftKind.ofBits_bits]; rfl
  | tstShiftImm _ _ _ amount kind | teqShiftImm _ _ _ amount kind | cmpShiftImm _ _ _ amount kind
  | cmnShiftImm _ _ _ amount kind =>
    obtain ⟨-, hkind, hamount⟩ := shiftImm_fields amount kind.bits
    rw [encode, decode_encDpShiftImm _ fun _ => rfl]
    unfold decodeDpShiftImm; rw [hkind, hamount, ShiftKind.ofBits_bits]; rfl
  | andShiftReg | eorShiftReg | subShiftReg | rsbShiftReg | addShiftReg | adcShiftReg | sbcShiftReg | rscShiftReg
  | orrShiftReg | movShiftReg | bicShiftReg | mvnShiftReg =>
    rw [encode, decode_encDpShiftReg _ fun h => absurd h (by decide)]
    unfold decodeDpShiftReg; rw [shiftReg_kind]; rfl
  | tstShiftReg | teqShiftReg | cmpShiftReg | cmnShiftReg =>
    rw [encode, decode_encDpShiftReg _ fun _ => rfl]
    unfold decodeDpShiftReg; rw [shiftReg_kind]; rfl
  | ldrImm | ldrImmPost | ldrtImm | strImm | strImmPost | strtImm | ldrbImm | ldrbImmPost | ldrbtImm | strbImm | strbImmPost
  | strbtImm =>
    rw [encode, decode_encSingleImm]
    simp only [decodeSingleImm, getLsbD_bits, low_append_bit]
  | ldrReg | ldrRegPost | ldrtReg | strReg | strRegPost | strtReg | ldrbReg | ldrbRegPost | ldrbtReg | strbReg | strbRegPost
  | strbtReg =>
    rw [encode, decode_encSingleReg]
    simp only [decodeSingleReg, getLsbD_bits, low_append_bit]
  | ldm | stm | stmUser =>
    rw [encode, decode_encMultiple]
    simp only [decodeMultiple, getLsbD_bits, low_append_bit, nibbles_16]
  | ldmUser _ _ _ _ _ list =>
    obtain ⟨hhigh, hlow⟩ := list15_fields 0b0#1 list
    rw [encode, decode_encMultiple]
    simp only [decodeMultiple, getLsbD_bits, low_append_bit, hhigh, hlow]
    rfl
  | ldmReturn _ _ _ _ _ list =>
    obtain ⟨hhigh, hlow⟩ := list15_fields 0b1#1 list
    rw [encode, decode_encMultiple]
    simp only [decodeMultiple, getLsbD_bits, low_append_bit, hhigh, hlow]
    rfl
  | ldcOffset | ldcPostUp | ldcPostDown | stcOffset | stcPostUp | stcPostDown =>
    rw [encode, decode_encCpTransfer]
    simp only [decodeCpTransfer, getLsbD_bits, low_append_bit, byte_nibbles]
  | b _ imm =>
    rw [encode, enc24, decode_pack, decodeNibbles, Cond.ofBits_bits]
    exact congrArg (fun f => Except.ok (Instr.b _ f)) (nibbles_24 imm)
  | bl _ imm =>
    rw [encode, enc24, decode_pack, decodeNibbles, Cond.ofBits_bits]
    exact congrArg (fun f => Except.ok (Instr.bl _ f)) (nibbles_24 imm)
  | swi _ imm =>
    rw [encode, enc24, decode_pack, decodeNibbles, Cond.ofBits_bits]
    exact congrArg (fun f => Except.ok (Instr.swi _ f)) (nibbles_24 imm)
  | blxImm h imm =>
    rw [encode, enc24, decode_pack, decodeNibbles, show Cond.ofBits 0b1111 = none from rfl]
    cases h <;> exact congrArg (fun f => Except.ok (Instr.blxImm _ f)) (nibbles_24 imm)
  | mul _ sf | mla _ sf | umull _ sf | umlal _ sf | smull _ sf | smlal _ sf =>
    rw [encode, decode_pack, decodeNibbles, Cond.ofBits_bits]
    cases sf <;> rfl
  | clz | swp | swpb => rw [encode, decode_pack, decodeNibbles, Cond.ofBits_bits]; rfl
  | mrs _ spsr | msrReg _ spsr =>
    rw [encode, decode_pack, decodeNibbles, Cond.ofBits_bits]
    cases spsr <;> rfl
  | msrImm _ spsr _ _ _ imm =>
    rw [encode, decode_pack, decodeNibbles, Cond.ofBits_bits]
    cases spsr <;> exact congrArg _ (congrArg _ (byte_nibbles imm))
  | bx _ sbo =>
    rw [encode, decode_pack, decodeNibbles, Cond.ofBits_bits]
    exact congrArg (fun f => Except.ok (Instr.bx _ f _)) (nibbles_12 sbo)
  | blxReg _ sbo =>
    rw [encode, decode_pack, decodeNibbles, Cond.ofBits_bits]
    exact congrArg (fun f => Except.ok (Instr.blxReg _ f _)) (nibbles_12 sbo)
  | bkpt _ immH =>
    rw [encode, decode_pack, decodeNibbles, Cond.ofBits_bits]
    exact congrArg (fun f => Except.ok (Instr.bkpt _ f _)) (nibbles_12 immH)
  | strhImm _ p u w | strhReg _ p u w | ldrhImm _ p u w | ldrhReg _ p u w | ldrsbImm _ p u w | ldrsbReg _ p u w
  | ldrshImm _ p u w | ldrshReg _ p u w =>
    rw [encode, decode_pack, decodeNibbles, Cond.ofBits_bits]
    cases p <;> cases u <;> cases w <;> rfl
  | cdp | mcr | mrc =>
    rw [encode, decode_cpRegister]
    simp only [decodeCpRegister, opcode3_fields]
    rfl

end Sys2Proof

namespace Sys2Proof

/-! ### A nibble from its fields -/

/-- A nibble is its bits 3:1 and its bit 0. -/
theorem append_bit_of_class {n : BitVec 4} {k : BitVec 3} (h : n.extractLsb' 1 3 = k) : k ++ bit (n.getLsbD 0) = n := by
  subst h; revert n; decide

@[simp] theorem bits_getLsbD (n : BitVec 4) :
    bit (n.getLsbD 3) ++ bit (n.getLsbD 2) ++ bit (n.getLsbD 1) ++ bit (n.getLsbD 0) = n := by revert n; decide

theorem nibbles_append_8 (n1 n0 : BitVec 4) :
    (n1 ++ n0 : BitVec 8).extractLsb' 4 4 = n1 ∧ (n1 ++ n0 : BitVec 8).extractLsb' 0 4 = n0 :=
  ⟨BitVec.extractLsb'_append_eq_left, BitVec.extractLsb'_append_eq_right⟩

theorem nibbles_append_12 (n2 n1 n0 : BitVec 4) :
    (n2 ++ n1 ++ n0 : BitVec 12).extractLsb' 8 4 = n2 ∧ (n2 ++ n1 ++ n0 : BitVec 12).extractLsb' 4 4 = n1 ∧
    (n2 ++ n1 ++ n0 : BitVec 12).extractLsb' 0 4 = n0 := by
  refine ⟨?_, ?_, BitVec.extractLsb'_append_eq_right⟩
  all_goals
    apply BitVec.eq_of_getLsbD_eq; intro i hi
    simp only [BitVec.getLsbD_append, BitVec.getLsbD_extractLsb']; interval_cases i <;> simp

theorem nibbles_append_16 (n3 n2 n1 n0 : BitVec 4) :
    (n3 ++ n2 ++ n1 ++ n0 : BitVec 16).extractLsb' 12 4 = n3 ∧ (n3 ++ n2 ++ n1 ++ n0 : BitVec 16).extractLsb' 8 4 = n2 ∧
    (n3 ++ n2 ++ n1 ++ n0 : BitVec 16).extractLsb' 4 4 = n1 ∧ (n3 ++ n2 ++ n1 ++ n0 : BitVec 16).extractLsb' 0 4 = n0 := by
  refine ⟨?_, ?_, ?_, ?_⟩
  all_goals
    apply BitVec.eq_of_getLsbD_eq; intro i hi
    simp only [BitVec.getLsbD_append, BitVec.getLsbD_extractLsb']; interval_cases i <;> simp

theorem nibbles_append_24 (n5 n4 n3 n2 n1 n0 : BitVec 4) :
    (n5 ++ n4 ++ n3 ++ n2 ++ n1 ++ n0 : BitVec 24).extractLsb' 20 4 = n5 ∧
    (n5 ++ n4 ++ n3 ++ n2 ++ n1 ++ n0 : BitVec 24).extractLsb' 16 4 = n4 ∧
    (n5 ++ n4 ++ n3 ++ n2 ++ n1 ++ n0 : BitVec 24).extractLsb' 12 4 = n3 ∧
    (n5 ++ n4 ++ n3 ++ n2 ++ n1 ++ n0 : BitVec 24).extractLsb' 8 4 = n2 ∧
    (n5 ++ n4 ++ n3 ++ n2 ++ n1 ++ n0 : BitVec 24).extractLsb' 4 4 = n1 ∧
    (n5 ++ n4 ++ n3 ++ n2 ++ n1 ++ n0 : BitVec 24).extractLsb' 0 4 = n0 := by
  refine ⟨?_, ?_, ?_, ?_, ?_, ?_⟩
  all_goals
    apply BitVec.eq_of_getLsbD_eq; intro i hi
    simp only [BitVec.getLsbD_append, BitVec.getLsbD_extractLsb']; interval_cases i <;> simp

/-- The fields of bits 24:20 of a data-processing word. -/
theorem dpRow_eq (n6 n5 : BitVec 4) :
    (n6.extractLsb' 1 3 ++ (n6.extractLsb' 0 1 ++ n5.extractLsb' 1 3 : BitVec 4).extractLsb' 3 1 : BitVec 4) = n6 ∧
    ((n6.extractLsb' 0 1 ++ n5.extractLsb' 1 3 : BitVec 4).extractLsb' 0 3 ++ bit (n5.getLsbD 0) : BitVec 4) = n5 := by
  revert n6 n5; decide

/-- Bits 11:4 of a register operand shifted by an immediate. -/
theorem shiftImm_eq (n2 n1 : BitVec 4) (h : n1.getLsbD 0 = false) :
    (n2 ++ n1.extractLsb' 3 1 : BitVec 5).extractLsb' 1 4 = n2 ∧
    ((n2 ++ n1.extractLsb' 3 1 : BitVec 5).extractLsb' 0 1 ++ n1.extractLsb' 1 2 ++ 0b0#1 : BitVec 4) = n1 := by
  revert n2 n1; decide

theorem shiftReg_eq (n1 : BitVec 4) (h3 : n1.getLsbD 3 = false) (h0 : n1.getLsbD 0 = true) :
    (0b0#1 ++ n1.extractLsb' 1 2 ++ 0b1#1 : BitVec 4) = n1 := by
  revert n1; decide

theorem halfword_eq (n1 : BitVec 4) (h3 : n1.getLsbD 3 = true) (h0 : n1.getLsbD 0 = true) :
    (0b1#1 ++ n1.extractLsb' 1 2 ++ 0b1#1 : BitVec 4) = n1 := by
  revert n1; decide

theorem control_eq {n6 n5 : BitVec 4} (hclass : n6.extractLsb' 1 3 = 0b000#3) (hctl : isControl n6 n5 = true) :
    n6 = 0b0001 ∧ (0b0#1 ++ n5.extractLsb' 1 2 ++ 0b0#1 : BitVec 4) = n5 := by
  revert n6 n5; decide

theorem msrImm_eq {n6 n5 : BitVec 4} (hclass : n6.extractLsb' 1 3 = 0b001#3) (hctl : isControl n6 n5 = true)
    (hmsr : n5.getLsbD 1 = true) : n6 = 0b0011 ∧ (0b0#1 ++ bit (n5.getLsbD 2) ++ 0b10#2 : BitVec 4) = n5 := by
  revert n6 n5; decide

/-- A list of sixteen bits is its bit 15 and the fifteen bits below it. -/
theorem list15_append (n3 n2 n1 n0 : BitVec 4) :
    (bit (n3.getLsbD 3) ++ (n3.extractLsb' 0 3 ++ n2 ++ n1 ++ n0 : BitVec 15) : BitVec 16) = n3 ++ n2 ++ n1 ++ n0 := by
  apply BitVec.eq_of_getLsbD_eq; intro i hi
  simp only [bit, BitVec.getLsbD_append, BitVec.getLsbD_extractLsb']; interval_cases i <;> simp

/-! ### The encoder on each branch of the decoder -/

section Branches

variable (c : Cond)

theorem encode_decodeDpImm {op : BitVec 4} {sf : Bool} (h : isDpRow op sf) (n4 n3 n2 n1 n0 : BitVec 4) :
    encode (decodeDpImm c op sf n4 n3 n2 n1 n0) = encDpImm c op sf n4 n3 n2 (n1 ++ n0) := by
  unfold decodeDpImm
  split
  case h_9 | h_10 | h_11 | h_12 => rw [h rfl]; rfl
  case h_16 =>
    have hop : op = 0b1111 := by clear h; revert op; decide
    rw [hop]; rfl
  all_goals rfl

theorem encode_decodeSingleImm (n6 n5 n4 n3 : BitVec 4) (imm : BitVec 12) :
    encode (decodeSingleImm c n6 n5 n4 n3 imm) =
      encSingleImm c (n6.getLsbD 0) (n5.getLsbD 3) (n5.getLsbD 2) (n5.getLsbD 1) (n5.getLsbD 0) n4 n3 imm := by
  unfold decodeSingleImm
  split <;> simp only [encode, *]

theorem encode_decodeDpShiftImm {op : BitVec 4} {sf : Bool} (h : isDpRow op sf) (n4 n3 n2 n1 n0 : BitVec 4) :
    encode (decodeDpShiftImm c op sf n4 n3 n2 n1 n0) =
      encDpShiftImm c op sf n4 n3 (n2 ++ n1.extractLsb' 3 1) (ShiftKind.ofBits (n1.extractLsb' 1 2)) n0 := by
  unfold decodeDpShiftImm
  split
  case h_9 | h_10 | h_11 | h_12 => rw [h rfl]; rfl
  case h_16 =>
    have hop : op = 0b1111 := by clear h; revert op; decide
    rw [hop]; rfl
  all_goals rfl

theorem encode_decodeDpShiftReg {op : BitVec 4} {sf : Bool} (h : isDpRow op sf) (n4 n3 n2 n1 n0 : BitVec 4) :
    encode (decodeDpShiftReg c op sf n4 n3 n2 n1 n0) =
      encDpShiftReg c op sf n4 n3 n2 (ShiftKind.ofBits (n1.extractLsb' 1 2)) n0 := by
  unfold decodeDpShiftReg
  split
  case h_9 | h_10 | h_11 | h_12 => rw [h rfl]; rfl
  case h_16 =>
    have hop : op = 0b1111 := by clear h; revert op; decide
    rw [hop]; rfl
  all_goals rfl

theorem encode_decodeSingleReg (n6 n5 n4 n3 : BitVec 4) (amount : BitVec 5) (kind : ShiftKind) (n0 : BitVec 4) :
    encode (decodeSingleReg c n6 n5 n4 n3 amount kind n0) =
      encSingleReg c (n6.getLsbD 0) (n5.getLsbD 3) (n5.getLsbD 2) (n5.getLsbD 1) (n5.getLsbD 0) n4 n3 amount kind n0 := by
  unfold decodeSingleReg
  split <;> simp only [encode, *]

/-- Words of class 000 and 001 that are no control instruction have S = 1 with opcode 10xx (R103). -/
theorem isDpRow_of_not_isControl {n6 n5 : BitVec 4} (h : isControl n6 n5 = false) :
    isDpRow (n6.extractLsb' 0 1 ++ n5.extractLsb' 1 3) (n5.getLsbD 0) := by
  unfold isDpRow; revert n6 n5; decide

theorem encode_decodeMultiple {n6 : BitVec 4} (h : n6.extractLsb' 1 3 = 0b100#3) (n5 n4 n3 n2 n1 n0 : BitVec 4) :
    encode (decodeMultiple c n6 n5 n4 n3 n2 n1 n0) = pack c.bits n6 n5 n4 n3 n2 n1 n0 := by
  have henc : encode (decodeMultiple c n6 n5 n4 n3 n2 n1 n0) = encMultiple c (n6.getLsbD 0) (n5.getLsbD 3) (n5.getLsbD 2)
      (n5.getLsbD 1) (n5.getLsbD 0) n4 (n3 ++ n2 ++ n1 ++ n0) := by
    unfold decodeMultiple
    split
    case h_2 => simp only [encode, ← list15_append n3 n2 n1 n0, *]; rfl
    case h_3 => simp only [encode, ← list15_append n3 n2 n1 n0, *]; rfl
    all_goals simp only [encode, *]
  obtain ⟨h3, h2, h1, h0⟩ := nibbles_append_16 n3 n2 n1 n0
  rw [henc, encMultiple, append_bit_of_class h, bits_getLsbD, h3, h2, h1, h0]

theorem encode_decodeCpRegister (n5 n4 n3 n2 n1 n0 : BitVec 4) :
    encode (decodeCpRegister c n5 n4 n3 n2 n1 n0) = pack c.bits 0b1110 n5 n4 n3 n2 n1 n0 := by
  have h5 : n5.extractLsb' 1 3 ++ bit (n5.getLsbD 0) = n5 := append_bit_of_class rfl
  have h1 : n1.extractLsb' 1 3 ++ bit (n1.getLsbD 0) = n1 := append_bit_of_class rfl
  unfold decodeCpRegister
  split
  case h_1 hn1 =>
    rw [hn1] at h1
    exact congrArg (pack c.bits 0b1110 n5 n4 n3 n2 · n0) h1
  case h_2 hn1 hn5 | h_3 hn1 hn5 =>
    rw [hn1] at h1
    rw [hn5] at h5
    exact congrArg₂ (pack c.bits 0b1110 · n4 n3 n2 · n0) h5 h1

variable {c} {n6 n5 n4 n3 n2 n1 n0 : BitVec 4} {i : Instr}

theorem encode_of_decodeCpTransfer (hclass : n6.extractLsb' 1 3 = 0b110#3)
    (h : decodeCpTransfer c n6 n5 n4 n3 n2 n1 n0 = .ok i) : encode i = pack c.bits n6 n5 n4 n3 n2 n1 n0 := by
  have henc : encode i = encCpTransfer c (n6.getLsbD 0) (n5.getLsbD 3) (n5.getLsbD 2) (n5.getLsbD 1) (n5.getLsbD 0) n4 n3 n2 (n1 ++ n0) := by
    unfold decodeCpTransfer at h
    split at h <;> cases h <;> simp only [encode, *]
  rw [henc, encCpTransfer, append_bit_of_class hclass, bits_getLsbD, (nibbles_append_8 n1 n0).1, (nibbles_append_8 n1 n0).2]

theorem encode_of_decodeHalfword (hclass : n6.extractLsb' 1 3 = 0b000#3) (h3 : n1.getLsbD 3 = true) (h0 : n1.getLsbD 0 = true)
    (h : decodeHalfword c n6 n5 n4 n3 n2 n1 n0 = .ok i) : encode i = pack c.bits n6 n5 n4 n3 n2 n1 n0 := by
  have henc : encode i = pack c.bits (0b000#3 ++ bit (n6.getLsbD 0))
      (bit (n5.getLsbD 3) ++ bit (n5.getLsbD 2) ++ bit (n5.getLsbD 1) ++ bit (n5.getLsbD 0)) n4 n3 n2
      (0b1#1 ++ n1.extractLsb' 1 2 ++ 0b1#1) n0 := by
    unfold decodeHalfword at h
    split at h <;> cases h <;> simp only [encode, *] <;> rfl
  rw [henc, append_bit_of_class hclass, bits_getLsbD, halfword_eq n1 h3 h0]

theorem encode_of_decodeMultiplySwap (hclass : n6.extractLsb' 1 3 = 0b000#3)
    (h : decodeMultiplySwap c n6 n5 n4 n3 n2 n0 = .ok i) : encode i = pack c.bits n6 n5 n4 n3 n2 0b1001 n0 := by
  have hn6 := append_bit_of_class hclass
  unfold decodeMultiplySwap at h
  split at h
  case isTrue hp =>
    rw [hp] at hn6
    rw [← hn6]
    split at h <;> cases h <;> rfl
  case isFalse hp =>
    rw [Bool.eq_false_iff.2 hp] at hn6
    rw [← hn6]
    split at h <;> cases h <;> simp only [encode, append_bit_of_class ‹n5.extractLsb' 1 3 = _›] <;> rfl

theorem encode_of_decodeControl (hclass : n6.extractLsb' 1 3 = 0b000#3) (hctl : isControl n6 n5 = true)
    (h : decodeControl c n5 n4 n3 n2 n1 n0 = .ok i) : encode i = pack c.bits n6 n5 n4 n3 n2 n1 n0 := by
  obtain ⟨hn6, hn5⟩ := control_eq hclass hctl
  obtain ⟨h2, h1, h0⟩ := nibbles_append_12 n4 n3 n2
  unfold decodeControl at h
  split at h <;> cases h <;> simp only [encode, h2, h1, h0] <;> rw [hn6, ← hn5, ‹n5.extractLsb' 1 2 = _›] <;> rfl

theorem encode_of_decodeClass000 (hclass : n6.extractLsb' 1 3 = 0b000#3)
    (h : decodeClass000 c n6 n5 n4 n3 n2 n1 n0 = .ok i) : encode i = pack c.bits n6 n5 n4 n3 n2 n1 n0 := by
  obtain ⟨h6, h5⟩ := dpRow_eq n6 n5
  rw [hclass] at h6
  unfold decodeClass000 at h
  split_ifs at h with h31 h21 hctl h0
  · obtain ⟨h3, h0⟩ := Bool.and_eq_true_iff.1 h31
    have h1 := halfword_eq n1 h3 h0
    rw [h21] at h1
    rw [encode_of_decodeMultiplySwap hclass h, ← h1]; rfl
  · obtain ⟨h3, h0⟩ := Bool.and_eq_true_iff.1 h31
    exact encode_of_decodeHalfword hclass h3 h0 h
  · exact encode_of_decodeControl hclass hctl h
  · have h3 : n1.getLsbD 3 = false := by simpa [h0] using h31
    cases h
    rw [encode_decodeDpShiftReg c (isDpRow_of_not_isControl (Bool.eq_false_iff.2 hctl)), encDpShiftReg, h6, h5,
      ShiftKind.bits_ofBits, shiftReg_eq n1 h3 h0]
  · obtain ⟨h2, h1⟩ := shiftImm_eq n2 n1 (Bool.eq_false_iff.2 h0)
    cases h
    rw [encode_decodeDpShiftImm c (isDpRow_of_not_isControl (Bool.eq_false_iff.2 hctl)), encDpShiftImm, h6, h5,
      ShiftKind.bits_ofBits, h2, h1]

theorem encode_of_decodeClass001 (hclass : n6.extractLsb' 1 3 = 0b001#3)
    (h : decodeClass001 c n6 n5 n4 n3 n2 n1 n0 = .ok i) : encode i = pack c.bits n6 n5 n4 n3 n2 n1 n0 := by
  obtain ⟨h6, h5⟩ := dpRow_eq n6 n5
  obtain ⟨h1, h0⟩ := nibbles_append_8 n1 n0
  rw [hclass] at h6
  unfold decodeClass001 at h
  split_ifs at h with hctl hmsr
  · obtain ⟨hn6, hn5⟩ := msrImm_eq hclass hctl hmsr
    cases h
    rw [encode, h1, h0, hn5, ← hn6]
  · cases h
    rw [encode_decodeDpImm c (isDpRow_of_not_isControl (Bool.eq_false_iff.2 hctl)), encDpImm, h6, h5, h1, h0]

theorem encode_of_decodeConditional (h : decodeConditional c n6 n5 n4 n3 n2 n1 n0 = .ok i) :
    encode i = pack c.bits n6 n5 n4 n3 n2 n1 n0 := by
  obtain ⟨h20, h12, h04⟩ := nibbles_append_12 n2 n1 n0
  obtain ⟨j5, j4, j3, j2, j1, j0⟩ := nibbles_append_24 n5 n4 n3 n2 n1 n0
  unfold decodeConditional at h
  split at h
  case h_1 hclass => exact encode_of_decodeClass000 hclass h
  case h_2 hclass => exact encode_of_decodeClass001 hclass h
  case h_3 hclass =>
    cases h
    rw [encode_decodeSingleImm, encSingleImm, append_bit_of_class hclass, bits_getLsbD, h20, h12, h04]
  case h_4 hclass =>
    split_ifs at h with h0
    obtain ⟨hn2, hn1⟩ := shiftImm_eq n2 n1 (Bool.eq_false_iff.2 h0)
    cases h
    rw [encode_decodeSingleReg, encSingleReg, append_bit_of_class hclass, bits_getLsbD, ShiftKind.bits_ofBits, hn2, hn1]
  case h_5 hclass => cases h; exact encode_decodeMultiple c hclass ..
  case h_6 hclass =>
    have hn6 := append_bit_of_class hclass
    split_ifs at h with hl <;> cases h
    · rw [hl] at hn6
      rw [encode, enc24, j5, j4, j3, j2, j1, j0, ← hn6]; rfl
    · rw [Bool.eq_false_iff.2 hl] at hn6
      rw [encode, enc24, j5, j4, j3, j2, j1, j0, ← hn6]; rfl
  case h_7 hclass => exact encode_of_decodeCpTransfer hclass h
  case h_8 =>
    have hclass : n6.extractLsb' 1 3 = 0b111#3 := by clear h; generalize n6.extractLsb' 1 3 = k at *; revert k; decide
    have hn6 := append_bit_of_class hclass
    split_ifs at h with hl <;> cases h
    · rw [hl] at hn6
      rw [encode, enc24, j5, j4, j3, j2, j1, j0, ← hn6]; rfl
    · rw [Bool.eq_false_iff.2 hl] at hn6
      rw [encode_decodeCpRegister, ← hn6]; rfl

end Branches

/-- A word is the encoding of what it decodes to. -/
theorem encode_of_decode {w : Word} {i : Instr} (h : decode w = .ok i) : encode i = w := by
  obtain ⟨h5, h4, h3, h2, h1, h0⟩ := nibbles_append_24 (nibble w 5) (nibble w 4) (nibble w 3) (nibble w 2) (nibble w 1) (nibble w 0)
  rw [← pack_nibble w]
  unfold decode decodeNibbles at h
  split at h
  case h_1 c hc => rw [encode_of_decodeConditional h, Cond.bits_ofBits _ c hc]
  case h_2 hc =>
    have h7 : nibble w 7 = 0b1111 := by
      by_contra hne
      obtain ⟨c, hb⟩ := Cond.exists_bits_eq hne
      rw [← hb, Cond.ofBits_bits] at hc
      cases hc
    split_ifs at h with hclass
    cases h
    rw [encode, enc24, h5, h4, h3, h2, h1, h0, append_bit_of_class hclass, h7]

end Sys2Proof

namespace Sys2Proof.Proofs

/-- Settles O1, by the constructors: each is encoded in one format, whose fields the decoder finds again. -/
theorem decodeAfterEncode : Obligations.DecodeAfterEncode := decode_encode

/-- Settles O2, by the branches of the decoder: each fixes the nibbles of the word it was given. -/
theorem encodeAfterDecode : Obligations.EncodeAfterDecode := fun _ _ h => encode_of_decode h

/-- Settles O3: the decoder computes each of the seven. -/
theorem exampleWordsDecode : Obligations.ExampleWordsDecode := ⟨rfl, rfl, rfl, rfl, rfl, rfl, rfl⟩

end Sys2Proof.Proofs

namespace Sys2Proof

/-! ### The words that are no instruction (R128, R129, R360)

`refusedByClass` is the decoder's refusal, class by class (R102); it looks at bits 27:20 and 7:4 alone. -/

/-- Whether the decoder refuses a word with a condition, by its class and its nibbles `n6`, `n5` and `n1`. -/
def refusedByClass (n6 n5 n1 : BitVec 4) : Bool :=
  match n6.extractLsb' 1 3 with
  | 0b000#3 =>
    if n1.getLsbD 3 && n1.getLsbD 0 then
      if n1.extractLsb' 1 2 = 0b00#2 then
        if n6.getLsbD 0 then n5 != 0b0000#4 && n5 != 0b0100#4
        else n5.extractLsb' 1 3 == 0b010#3 || n5.extractLsb' 1 3 == 0b011#3
      else !n5.getLsbD 0 && n1.extractLsb' 1 2 != 0b01#2
    else isControl n6 n5 && !(n1 == 0b0000#4 ||
      (n1 == 0b0001#4 && (n5.extractLsb' 1 2 == 0b01#2 || n5.extractLsb' 1 2 == 0b11#2)) ||
      ((n1 == 0b0011#4 || n1 == 0b0111#4) && n5.extractLsb' 1 2 == 0b01#2))
  | 0b001#3 => isControl n6 n5 && !n5.getLsbD 1
  | 0b011#3 => n1.getLsbD 0
  | 0b110#3 => !n6.getLsbD 0 && !n5.getLsbD 3 && !n5.getLsbD 1
  | _ => false

section Refused

variable {c : Cond} {n6 n5 n4 n3 n2 n1 n0 : BitVec 4}

theorem decodeMultiplySwap_error :
    (∃ e, decodeMultiplySwap c n6 n5 n4 n3 n2 n0 = .error e) ↔
      (if n6.getLsbD 0 then n5 != 0b0000#4 && n5 != 0b0100#4
        else n5.extractLsb' 1 3 == 0b010#3 || n5.extractLsb' 1 3 == 0b011#3) = true := by
  unfold decodeMultiplySwap
  split
  · split <;> simp_all
  · generalize n5.extractLsb' 1 3 = k
    split <;> simp_all
    revert k; decide

theorem decodeHalfword_error (h : n1.extractLsb' 1 2 ≠ 0b00#2) :
    (∃ e, decodeHalfword c n6 n5 n4 n3 n2 n1 n0 = .error e) ↔
      (!n5.getLsbD 0 && n1.extractLsb' 1 2 != 0b01#2) = true := by
  unfold decodeHalfword
  generalize n1.extractLsb' 1 2 = k at h
  generalize n5.getLsbD 0 = l, n5.getLsbD 2 = i
  revert h
  split <;> simp_all
  revert k l i; decide

theorem decodeControl_error :
    (∃ e, decodeControl c n5 n4 n3 n2 n1 n0 = .error e) ↔
      (!(n1 == 0b0000#4 || (n1 == 0b0001#4 && (n5.extractLsb' 1 2 == 0b01#2 || n5.extractLsb' 1 2 == 0b11#2)) ||
      ((n1 == 0b0011#4 || n1 == 0b0111#4) && n5.extractLsb' 1 2 == 0b01#2))) = true := by
  unfold decodeControl
  generalize n5.extractLsb' 1 2 = k
  split
  case h_9 =>
    have hk : k = 0b00#2 ∨ k = 0b01#2 ∨ k = 0b10#2 ∨ k = 0b11#2 := by clear * -; revert k; decide
    rcases hk with rfl | rfl | rfl | rfl <;> simp_all
  all_goals simp

theorem decodeCpTransfer_error :
    (∃ e, decodeCpTransfer c n6 n5 n4 n3 n2 n1 n0 = .error e) ↔
      (!n6.getLsbD 0 && !n5.getLsbD 3 && !n5.getLsbD 1) = true := by
  unfold decodeCpTransfer
  split <;> simp_all

theorem decodeClass000_error :
    (∃ e, decodeClass000 c n6 n5 n4 n3 n2 n1 n0 = .error e) ↔
      (if n1.getLsbD 3 && n1.getLsbD 0 then
        if n1.extractLsb' 1 2 = 0b00#2 then
          if n6.getLsbD 0 then n5 != 0b0000#4 && n5 != 0b0100#4
          else n5.extractLsb' 1 3 == 0b010#3 || n5.extractLsb' 1 3 == 0b011#3
        else !n5.getLsbD 0 && n1.extractLsb' 1 2 != 0b01#2
      else isControl n6 n5 && !(n1 == 0b0000#4 ||
        (n1 == 0b0001#4 && (n5.extractLsb' 1 2 == 0b01#2 || n5.extractLsb' 1 2 == 0b11#2)) ||
        ((n1 == 0b0011#4 || n1 == 0b0111#4) && n5.extractLsb' 1 2 == 0b01#2))) = true := by
  unfold decodeClass000
  split
  · split
    · exact decodeMultiplySwap_error
    · exact decodeHalfword_error ‹_›
  · split
    · rw [decodeControl_error, ‹isControl n6 n5 = true›, Bool.true_and]
    · rw [Bool.eq_false_iff.2 ‹¬ isControl n6 n5 = true›]; split <;> simp

theorem decodeConditional_error :
    (∃ e, decodeConditional c n6 n5 n4 n3 n2 n1 n0 = .error e) ↔ refusedByClass n6 n5 n1 = true := by
  unfold decodeConditional refusedByClass
  generalize n6.extractLsb' 1 3 = k
  split
  case h_1 => exact decodeClass000_error
  case h_2 =>
    unfold decodeClass001
    cases hctl : isControl n6 n5 <;> cases hmsr : n5.getLsbD 1 <;> simp
  case h_4 => split_ifs <;> simp_all
  case h_6 => split_ifs <;> simp
  case h_7 => exact decodeCpTransfer_error
  case h_8 => 
    split <;> split_ifs <;> simp_all
  all_goals simp

end Refused

/-! ### The table of R360 by nibbles -/

section Fields

variable (w : Word)

theorem getLsbD_nibbles :
    w.getLsbD 4 = (nibble w 1).getLsbD 0 ∧ w.getLsbD 7 = (nibble w 1).getLsbD 3 ∧ w.getLsbD 20 = (nibble w 5).getLsbD 0 ∧
    w.getLsbD 21 = (nibble w 5).getLsbD 1 ∧ w.getLsbD 23 = (nibble w 5).getLsbD 3 := by simp [nibble]

theorem extractLsb'_nibbles :
    w.extractLsb' 24 4 = nibble w 6 ∧ w.extractLsb' 4 4 = nibble w 1 ∧ w.extractLsb' 25 3 = (nibble w 6).extractLsb' 1 3 ∧
    w.extractLsb' 20 2 = (nibble w 5).extractLsb' 0 2 ∧ w.extractLsb' 21 2 = (nibble w 5).extractLsb' 1 2 ∧
    w.extractLsb' 22 2 = (nibble w 5).extractLsb' 2 2 ∧ w.extractLsb' 23 5 = nibble w 6 ++ (nibble w 5).extractLsb' 3 1 := by
  refine ⟨rfl, rfl, ?_, ?_, ?_, ?_, ?_⟩
  all_goals
    apply BitVec.eq_of_getLsbD_eq; intro i hi
    simp only [nibble, BitVec.getLsbD_append, BitVec.getLsbD_extractLsb']; interval_cases i <;> simp

/-- The "always" rows of R360 are what the decoder refuses, class by class. -/
theorem undefinedArea_eq : Claims.undefinedArea w = refusedByClass (nibble w 6) (nibble w 5) (nibble w 1) := by
  simp only [Claims.undefinedArea, getLsbD_nibbles w, extractLsb'_nibbles w]
  generalize nibble w 5 = n5, nibble w 1 = n1
  obtain ⟨k, p, h6⟩ : ∃ k p, nibble w 6 = k ++ bit p := ⟨_, _, (append_bit_of_class rfl).symm⟩
  rw [h6]
  clear h6
  unfold refusedByClass
  simp only [class_append_bit, low_append_bit]
  split
  case h_1 | h_2 | h_3 | h_4 => revert p n5 n1; decide
  case h_5 =>
    have hk : k = 0b010#3 ∨ k = 0b100#3 ∨ k = 0b101#3 ∨ k = 0b111#3 := by revert k; decide
    rcases hk with rfl | rfl | rfl | rfl <;> (revert p n5 n1; decide)

end Fields

end Sys2Proof

namespace Sys2Proof.Proofs

/-- Settles O4: with a condition the decoder refuses by class, which is the table; with 1111 it asks for bits 27:25 = 101 alone. -/
theorem undefinedEncodingsAreTheTable : Obligations.UndefinedEncodingsAreTheTable := by
  intro w
  refine ⟨fun h7 => ?conditional, fun h7 => ?unconditional⟩
  case conditional =>
    obtain ⟨c, hc⟩ := Cond.exists_bits_eq h7
    rw [undefinedArea_eq, decode, decodeNibbles, ← hc, Cond.ofBits_bits]
    exact decodeConditional_error
  case unconditional =>
    obtain ⟨-, -, h25, -⟩ := extractLsb'_nibbles w
    rw [h25, decode, decodeNibbles, h7, show Cond.ofBits 0b1111 = none from rfl]
    split_ifs with hclass <;> simp [hclass]

end Sys2Proof.Proofs

/-! ## Registers, reset and the order of a step (R23, R29, R44, R141, R412, R425) -/

namespace Sys2Proof.Machine

open Sys2Proof.Claims

/-! ### The low bits of an address -/

/-- Clearing bits 1:0 of a word. -/
theorem and_clear_two (v : Word) : v &&& 0xFFFFFFFC = v.extractLsb' 2 30 ++ 0b00#2 := by
  apply BitVec.eq_of_getLsbD_eq; intro i hi
  simp only [BitVec.getLsbD_append, BitVec.getLsbD_extractLsb', BitVec.getLsbD_and]; interval_cases i <;> simp

/-- Clearing bit 0 of a word. -/
theorem and_clear_one (v : Word) : v &&& 0xFFFFFFFE = v.extractLsb' 1 31 ++ 0b0#1 := by
  apply BitVec.eq_of_getLsbD_eq; intro i hi
  simp only [BitVec.getLsbD_append, BitVec.getLsbD_extractLsb', BitVec.getLsbD_and]; interval_cases i <;> simp

/-- Every vector is word aligned (R400). -/
theorem State.vector_low_bits (s : State) (e : ExceptionKind) : (s.vector e).extractLsb' 0 2 = 0b00#2 := by
  unfold State.vector
  split <;> cases e <;> rfl

/-! ### The end of a step -/

/-- The end of a step leaves an exception entry as it is. -/
theorem settle_takeException (e : ExceptionKind) (s : State) :
    settle (.next (takeException e s)) = .next (takeException e s) :=
  congrArg Host.Outcome.next (State.aligned_eq (.inr (State.vector_low_bits s e)))

/-- Where no event is due a fetched instruction answers its meaning, its pc settled. -/
theorem step_of_decode {s : State} {w : Word} {i : Instr} (h : NoEvent s) (hf : fetch s = some w) (hd : decode w = .ok i) :
    step s = settle (exec i s.sampled) := by
  rw [step_of_fetch h hf, execWord_decoded hd]

/-- Where no event is due a fetched word that is no instruction answers as one. -/
theorem step_of_undecoded {s : State} {w : Word} {e : DecodeError} (h : NoEvent s) (hf : fetch s = some w)
    (hd : decode w = .error e) : step s = settle (execUndefined w s.sampled) := by
  rw [step_of_fetch h hf, execWord_undecoded hd]

/-! ### Reset -/

theorem takeReset_eq (s : State) : ∃ link saved n, takeReset s = enterException .reset link saved { s with draws := n } :=
  ⟨_, _, _, rfl⟩

/-! ### The frames of an instruction -/

/-- Every processor has the coprocessor instructions: it asks the coprocessors. -/
theorem present_of_isCoprocessor {i : Instr} {cp : BitVec 4} (h : isCoprocessor i = some cp) (cfg : Config) :
    present cfg i = true := by
  cases i with
  | ldcOffset | ldcPostUp | ldcPostDown | stcOffset | stcPostUp | stcPostDown | cdp | mcr | mrc => rfl
  | _ => cases h

/-- Right after an LDM of the User bank an instruction that names one of r8 to r14 is stopped (R471). -/
theorem accessStop_of_window {s : State} {regs : List RegNo} (hm : s.mode ≠ none) (hw : s.userBankWindow = true)
    (hr : ∃ r ∈ regs, 8 ≤ r.toNat ∧ r.toNat ≤ 14) : accessStop s regs = some .bankedAfterUserLoad := by
  have hany : regs.any (fun r => 8 ≤ r.toNat && r.toNat ≤ 14) = true := by
    obtain ⟨r, hmem, hrange⟩ := hr
    exact List.any_eq_true.2 ⟨r, hmem, by simpa using hrange⟩
  rw [accessStop, if_neg fun h => hm h.1, if_pos ⟨hw, hany⟩]

section Offered

variable {i : Instr} {cp : BitVec 4} {s s1 : State} (body : Word → List Word → State → Result) (hr : runs i s = true)

include hr

theorem offered_absent (hc : cp ∉ s.cfg.coprocs) : offered i cp s body = .next (takeException .undefined s) := by
  simp [offered, hr, hc]

theorem offered_declined (hc : cp ∈ s.cfg.coprocs) (ha : cpAnswer cp (encode i) s = (.declines, s1)) :
    offered i cp s body = .next (takeException .undefined s1) := by
  simp [offered, hr, hc, ha]

theorem offered_busy (hc : cp ∈ s.cfg.coprocs) (ha : cpAnswer cp (encode i) s = (.busy, s1)) :
    offered i cp s body = .next s1 := by
  simp [offered, hr, hc, ha]

theorem offered_accepted {v : Word} {vs : List Word} (hc : cp ∈ s.cfg.coprocs)
    (ha : cpAnswer cp (encode i) s = (.accepts v vs, s1)) : offered i cp s body = checked i s1 (body v vs) := by
  simp [offered, hr, hc, ha]

end Offered

end Sys2Proof.Machine

namespace Sys2Proof.Proofs

open Sys2Proof.Machine

/-- Settles O6: the laws of a register write. -/
theorem registerWritesReadBack : Obligations.RegisterWritesReadBack := by
  intro s r v
  refine ⟨if_pos rfl, fun hr => ⟨s.reg_setReg_same hr v, fun r' h => s.reg_setReg_other hr h v, fun q hq => ?_⟩⟩
  exact s.getPhys_setPhys_other hq v

/-- Settles O8: the reset state holds the values of R44. -/
theorem resetValues : Obligations.ResetValues := ⟨rfl, rfl, rfl, rfl, rfl, rfl⟩

/-- Settles O9: the invariant's four clauses on the reset state. -/
theorem resetKeepsTheInvariant : Obligations.ResetKeepsTheInvariant :=
  ⟨by decide, reset_wf, fun _ => rfl, fun _ => rfl⟩

/-- Settles O14: the tests of a step in the order in which it makes them. -/
theorem stepTakesEventsInOrder : Obligations.StepTakesEventsInOrder := by
  intro s
  refine ⟨?reset, ?thumb, ?fiq, ?irq, ?fetchAborts, ?misaligned⟩
  case reset => intro hr; simp [step, cycle, interrupted, hr]
  case thumb => intro hr hT; simp [step, cycle, interrupted, hr, hT]
  case fiq => intro hr hT hf hF; simp [step, cycle, interrupted, hr, hT, hf, hF]
  case irq => intro hr hT hf hi hI; simp [step, cycle, interrupted, hr, hT, hf, hi, hI]
  case fetchAborts =>
    rintro ⟨hr, hT, hf, hi⟩ ha
    have hfetch : fetch s.sampled = none := if_pos ha
    simp [step, cycle, interrupted, hr, hT, hf, hi, fetchAndExecute_aborted hfetch]
  case misaligned =>
    rintro ⟨hr, hT, hf, hi⟩ ha hpc
    have hfetch : fetch s.sampled = some (s.mem.readWord s.pc.toNat) := if_neg (Bool.eq_false_iff.1 ha)
    refine ⟨Config.drawWord s.draws, ?_⟩
    simp [step, cycle, interrupted, hr, hT, hf, hi, fetchAndExecute_misaligned hfetch hpc]

/-- Settles O15: the entry procedure of R410 for Reset, with free values for the link and the saved status. -/
theorem resetLineEntry : Obligations.ResetLineEntry := by
  intro s hr
  obtain ⟨link, saved, n, hentry⟩ := takeReset_eq s.sampled
  have hstep : step s = .next (takeReset s.sampled) := by simp [step, cycle, interrupted, hr]
  rw [hentry] at hstep
  refine ⟨_, hstep, enterException_mode .., psrT_onEntry .., psrF_onEntry .., psrI_onEntry .., ?pc, psrOnEntry_high_bits ..,
    enterException_mem .., ?registers, ?spsrs⟩
  case pc =>
    rw [enterException_pc, State.vector_eq]
    exact zero_add _
  case registers =>
    intro q hpc hlr
    rw [enterException_other .reset _ _ _ hpc hlr]
    exact State.getPhys_of_banks rfl hpc
  case spsrs => rw [enterException_spsr]; exact ⟨rfl, rfl, rfl, rfl⟩

/-- Settles O16: `settle` on what the meaning answers; a pc already aligned, or of Thumb state, it leaves. -/
theorem stepRunsTheDecodedInstruction : Obligations.StepRunsTheDecodedInstruction := by
  intro s w i hcalm hf hd
  rw [step_of_decode hcalm hf hd]
  refine ⟨fun t ht => ?next, fun why hr => ?refused⟩
  case refused => rw [hr]; rfl
  case next =>
    rw [ht, settle]
    split_ifs with h
    · rw [State.aligned_eq h]
    · obtain ⟨hT, hpc⟩ := not_or.1 h
      rw [State.aligned, if_neg hpc, if_neg hT, and_clear_two]

/-- Settles O19: the meaning of a word that is no instruction, by its condition field. -/
theorem undefinedWordsTrap : Obligations.UndefinedWordsTrap := by
  intro s w e hcalm hf hd
  have hnone : nibble w 7 = 0b1111 → Cond.ofBits (nibble w 7) = none := fun h => by rw [h]; rfl
  rw [step_of_undecoded hcalm hf hd]
  refine ⟨fun c hc hpasses => ?traps, fun h7 hv => ?trapsV5, fun h7 hv htop => ?skipped⟩
  case traps =>
    have hmeaning : execUndefined w s.sampled = .next (takeException .undefined s.sampled) := by
      simp only [execUndefined, hc, State.sampled_cpsr, hpasses, if_true]
    rw [hmeaning, settle_takeException]
  case trapsV5 =>
    have hmeaning : execUndefined w s.sampled = .next (takeException .undefined s.sampled) := by
      simp only [execUndefined, hnone h7, State.sampled_cfg, hv, if_true]
    rw [hmeaning, settle_takeException]
  case skipped =>
    have hmeaning : execUndefined w s.sampled = skip s.sampled := by
      simp only [execUndefined, hnone h7, State.sampled_cfg, hv, Bool.false_eq_true, if_false]
    rw [hmeaning, settle_skip (pc_low_bits_of_noEvent hcalm) htop, State.sampled_pc]

/-- Settles O20: the frame asks for presence before it runs a body; the coprocessor instructions are never absent. -/
theorem absentInstructionsTrap : Obligations.AbsentInstructionsTrap := by
  refine ⟨fun i s hr hp => ?trap, fun cfg => ⟨fun h _ _ _ => h, fun h => ⟨fun _ _ _ => h, fun _ _ _ _ _ => h, fun _ _ _ => h⟩,
    fun h op => ?long⟩⟩
  case trap =>
    cases hcp : Claims.isCoprocessor i with
    | none =>
      obtain ⟨body, hbody⟩ := exec_guarded hcp
      rw [hbody, guarded_absent hr hp]
    | some cp => rw [present_of_isCoprocessor hcp] at hp; cases hp
  case long => intro c sf rdHi rdLo rs rm; cases op <;> exact h

/-- Settles O21: the frame refuses a restricted operand, and a register named in the hazard of R471. -/
theorem restrictedOperandsAreRefused : Obligations.RestrictedOperandsAreRefused := by
  refine ⟨fun i s why hcp hr hp hres => ?restricted, fun i s hcp hr hp hres hm hw hnamed => ?hazard⟩
  case restricted =>
    obtain ⟨body, hbody⟩ := exec_guarded hcp
    rw [hbody, guarded_restricted hr hp hres]; rfl
  case hazard =>
    obtain ⟨body, hbody⟩ := exec_guarded hcp
    rw [hbody, guarded_stopped hr hp hres (accessStop_of_window hm hw hnamed)]; rfl

/-- Settles O56: what the frame of the coprocessor instructions does before any body. -/
theorem unacceptedCoprocessorInstructions : Obligations.UnacceptedCoprocessorInstructions := by
  intro i cp s hcp hr
  obtain ⟨body, hbody⟩ := exec_offered hcp
  refine ⟨fun hc => ?absent, fun hc s1 ha => ?declined, fun hc s1 ha => ⟨?busy, cpAnswer_state ha⟩⟩
  case absent => rw [hbody, offered_absent _ hr hc]
  case declined => rw [hbody, offered_declined _ hr hc ha]
  case busy => rw [hbody, offered_busy _ hr hc ha]

end Sys2Proof.Proofs

/-! ## The operand restrictions (R133, R195, R246, R249, R267, R291, R296, R318, R330, R333, R335, R353)

Each restriction is a sequence of tests; there is none when every test fails. -/

namespace Sys2Proof.Machine

@[simp] theorem Restrict.when_eq_none {b : Bool} {u : Unpredictable} : Restrict.when b u = none ↔ b = false := by
  cases b <;> simp [Restrict.when]

@[simp] theorem Restrict.zero_eq_none {n : Nat} {sbz : BitVec n} : Restrict.zero sbz = none ↔ sbz = 0 := by
  simp [Restrict.zero]

theorem Restrict.zero_of_ne {n : Nat} {sbz : BitVec n} (h : sbz ≠ 0) : Restrict.zero sbz = some .shouldBeField := by
  simpa [Restrict.zero, Restrict.when] using h

@[simp] theorem Restrict.ones_eq_none {n : Nat} {sbo : BitVec n} : Restrict.ones sbo = none ↔ sbo = BitVec.allOnes n := by
  simp [Restrict.ones]

@[simp] theorem Restrict.shiftReg_eq_none {sbz : BitVec 4} {regs : List RegNo} :
    Restrict.shiftReg sbz regs = none ↔ sbz = 0 ∧ ∀ r ∈ regs, r ≠ 15 := by
  simp only [Restrict.shiftReg, Option.or_eq_none_iff, Restrict.zero_eq_none, Restrict.when_eq_none, List.contains_eq_mem,
    decide_eq_false_iff_not]
  exact and_congr_right fun _ => ⟨fun h r hr he => h (he ▸ hr), fun h hr => h 15 hr rfl⟩

theorem Restrict.mul_eq_none {rd : RegNo} {sbz : BitVec 4} {rs rm : RegNo} :
    Restrict.mul rd sbz rs rm = none ↔ sbz = 0 ∧ rd ≠ 15 ∧ rs ≠ 15 ∧ rm ≠ 15 ∧ rd ≠ rm := by
  simp [Restrict.mul, and_assoc, eq_comm (a := 15#4)]

theorem Restrict.mla_eq_none {rd rn rs rm : RegNo} :
    Restrict.mla rd rn rs rm = none ↔ rd ≠ 15 ∧ rn ≠ 15 ∧ rs ≠ 15 ∧ rm ≠ 15 ∧ rd ≠ rm := by
  simp [Restrict.mla, and_assoc, eq_comm (a := 15#4)]

theorem Restrict.mulLong_eq_none {rdHi rdLo rs rm : RegNo} :
    Restrict.mulLong rdHi rdLo rs rm = none ↔
      rdHi ≠ 15 ∧ rdLo ≠ 15 ∧ rs ≠ 15 ∧ rm ≠ 15 ∧ rdHi ≠ rm ∧ rdLo ≠ rm ∧ rdHi ≠ rdLo := by
  simp [Restrict.mulLong, and_assoc, eq_comm (a := 15#4)]

theorem Restrict.clz_eq_none {sboHi : BitVec 4} {rd : RegNo} {sboLo : BitVec 4} {rm : RegNo} :
    Restrict.clz sboHi rd sboLo rm = none ↔ sboHi = 15 ∧ sboLo = 15 ∧ rd ≠ 15 ∧ rm ≠ 15 := by
  simp [Restrict.clz, and_assoc, eq_comm (a := 15#4)]

theorem Restrict.swap_eq_none {rn rd : RegNo} {sbz : BitVec 4} {rm : RegNo} :
    Restrict.swap rn rd sbz rm = none ↔ sbz = 0 ∧ rn ≠ 15 ∧ rd ≠ 15 ∧ rm ≠ 15 ∧ rn ≠ rm ∧ rn ≠ rd := by
  simp [Restrict.swap, and_assoc, eq_comm (a := 15#4)]

theorem Restrict.mrs_eq_none {sbo : BitVec 4} {rd : RegNo} {sbzHi sbzLo : BitVec 4} :
    Restrict.mrs sbo rd sbzHi sbzLo = none ↔ sbo = 15 ∧ sbzHi = 0 ∧ sbzLo = 0 ∧ rd ≠ 15 := by
  simp [Restrict.mrs, and_assoc]

theorem Restrict.msrReg_eq_none {sbo sbz : BitVec 4} {rm : RegNo} :
    Restrict.msrReg sbo sbz rm = none ↔ sbo = 15 ∧ sbz = 0 ∧ rm ≠ 15 := by
  simp [Restrict.msrReg, and_assoc]

theorem Restrict.blxReg_eq_none {sbo : BitVec 12} {rm : RegNo} :
    Restrict.blxReg sbo rm = none ↔ sbo = 0xFFF ∧ rm ≠ 15 := by
  simp [Restrict.blxReg]

theorem Restrict.bkpt_eq_none {c : Cond} : Restrict.bkpt c = none ↔ c = .al := by
  simp [Restrict.bkpt]

/-! ### The transfers -/

theorem Restrict.writeBackClash_eq_false {wb : Bool} {rn rd : RegNo} :
    Restrict.writeBackClash wb rn rd = false ↔ wb = false ∨ (rn ≠ 15 ∧ rd ≠ rn) := by
  cases wb <;> simp [Restrict.writeBackClash]

theorem Restrict.singleImm_eq_none {noPc wb : Bool} {rn rd : RegNo} :
    Restrict.singleImm noPc wb rn rd = none ↔ (wb = false ∨ (rn ≠ 15 ∧ rd ≠ rn)) ∧ (noPc = true → rd ≠ 15) := by
  simp [Restrict.singleImm, Restrict.writeBackClash_eq_false]

theorem Restrict.singleReg_eq_none {noPc wb : Bool} {rn rd rm : RegNo} :
    Restrict.singleReg noPc wb rn rd rm = none ↔
      (wb = false ∨ (rn ≠ 15 ∧ rd ≠ rn ∧ rm ≠ rn)) ∧ (noPc = true → rd ≠ 15) ∧ rm ≠ 15 := by
  cases wb
  case false => simp [Restrict.singleReg, Restrict.singleImm_eq_none]
  case true => simp [Restrict.singleReg, Restrict.singleImm_eq_none]; tauto

theorem Restrict.halfwordImm_eq_none {p w : Bool} {rn rd : RegNo} :
    Restrict.halfwordImm p w rn rd = none ↔
      (p = true ∨ w = false) ∧ rd ≠ 15 ∧ ((p = true ∧ w = false) ∨ (rn ≠ 15 ∧ rd ≠ rn)) := by
  cases p <;> cases w <;> simp [Restrict.halfwordImm, Restrict.writeBackClash_eq_false]

theorem Restrict.halfwordReg_eq_none {p w : Bool} {rn rd rm : RegNo} :
    Restrict.halfwordReg p w rn rd 0 rm = none ↔
      (p = true ∨ w = false) ∧ rd ≠ 15 ∧ rm ≠ 15 ∧ ((p = true ∧ w = false) ∨ (rn ≠ 15 ∧ rd ≠ rn ∧ rm ≠ rn)) := by
  cases p <;> cases w <;> simp [Restrict.halfwordReg, Restrict.halfwordImm_eq_none] <;> tauto

theorem Restrict.halfwordReg_of_ne {sbz : BitVec 4} (h : sbz ≠ 0) (p w : Bool) (rn rd rm : RegNo) :
    Restrict.halfwordReg p w rn rd sbz rm = some .shouldBeField := by
  simp [Restrict.halfwordReg, Restrict.zero_of_ne h]

theorem Restrict.ldm_eq_none {w : Bool} {rn : RegNo} {list : BitVec 16} :
    Restrict.ldm w rn list = none ↔ list ≠ 0 ∧ rn ≠ 15 ∧ (w = true → list.getLsbD rn.toNat = false) := by
  simp [Restrict.ldm, Restrict.inList, and_assoc]

theorem Restrict.stm_eq_none {w : Bool} {rn : RegNo} {list : BitVec 16} :
    Restrict.stm w rn list = none ↔
      list ≠ 0 ∧ rn ≠ 15 ∧ (w = true → list.getLsbD rn.toNat = true → ∀ k < rn.toNat, list.getLsbD k = false) := by
  simp [Restrict.stm, Restrict.inList, Restrict.lowerInList, and_assoc]

theorem Restrict.multipleUser_eq_none {n : Nat} {w : Bool} {rn : RegNo} {list : BitVec n} :
    Restrict.multipleUser w rn list = none ↔ list ≠ 0 ∧ rn ≠ 15 ∧ w = false := by
  simp [Restrict.multipleUser, and_assoc]

theorem Restrict.ldmReturn_eq_none {w : Bool} {rn : RegNo} {list : BitVec 15} :
    Restrict.ldmReturn w rn list = none ↔ rn ≠ 15 ∧ (w = true → list.getLsbD rn.toNat = false) := by
  simp [Restrict.ldmReturn, Restrict.inList]

theorem Restrict.cpTransfer_eq_none {wb : Bool} {rn : RegNo} : Restrict.cpTransfer wb rn = none ↔ (rn = 15 → wb = false) := by
  cases wb <;> simp [Restrict.cpTransfer]

end Sys2Proof.Machine

namespace Sys2Proof.Proofs

open Sys2Proof.Machine Sys2Proof.Claims

/-- Settles O22: the tests of each restriction, read off one by one. -/
theorem restrictionsOutsideTransfers : Obligations.RestrictionsOutsideTransfers := by
  refine ⟨?dpShiftReg, ?dpImm, ?dpShiftImm, ?testImm, ?moveImm, ?testShiftImm, ?moveShiftImm, ?testShiftReg, ?moveShiftReg,
    fun _ _ _ _ _ _ => Restrict.mul_eq_none, fun _ _ _ _ _ _ => Restrict.mla_eq_none, ?long,
    fun _ _ _ _ _ => Restrict.clz_eq_none, fun _ _ _ _ _ => Restrict.swap_eq_none, fun _ _ _ _ _ => rfl,
    fun _ _ _ _ _ _ => Restrict.mrs_eq_none, fun _ _ _ _ _ _ => Restrict.msrReg_eq_none, fun _ _ _ _ _ _ => Restrict.ones_eq_none,
    fun _ _ _ => Restrict.ones_eq_none, fun _ _ _ => Restrict.blxReg_eq_none, fun _ _ _ => Restrict.bkpt_eq_none⟩
  case dpShiftReg =>
    intro op rs kind rm c sf rn rd
    cases op <;> simp [DpOp.instr, restriction, DpOp.isTest] <;> tauto
  case dpImm => intro op rot imm8 c sf rn rd; cases op <;> rfl
  case dpShiftImm => intro op amount kind rm c sf rn rd; cases op <;> rfl
  case testImm => exact fun _ _ _ _ _ => ⟨Restrict.zero_eq_none, Restrict.zero_eq_none, Restrict.zero_eq_none, Restrict.zero_eq_none⟩
  case moveImm => exact fun _ _ _ _ _ _ => ⟨Restrict.zero_eq_none, Restrict.zero_eq_none⟩
  case testShiftImm =>
    exact fun _ _ _ _ _ _ => ⟨Restrict.zero_eq_none, Restrict.zero_eq_none, Restrict.zero_eq_none, Restrict.zero_eq_none⟩
  case moveShiftImm => exact fun _ _ _ _ _ _ _ => ⟨Restrict.zero_eq_none, Restrict.zero_eq_none⟩
  case testShiftReg => intro c rn sbz rs kind rm; simp [restriction]
  case moveShiftReg => intro c sf sbz rd rs kind rm; simp [restriction]
  case long => intro op c sf rdHi rdLo rs rm; cases op <;> exact Restrict.mulLong_eq_none

/-- Settles O23: the tests of each restriction, read off one by one. -/
theorem restrictionsOfTransfers : Obligations.RestrictionsOfTransfers := by
  refine ⟨?singleImm, ?singleReg, ?halfImm, ?halfReg, ?halfField, fun _ _ _ _ _ _ => Restrict.ldm_eq_none,
    fun _ _ _ _ _ _ => Restrict.stm_eq_none, fun _ _ _ _ _ _ => Restrict.multipleUser_eq_none,
    fun _ _ _ _ _ _ => Restrict.multipleUser_eq_none, fun _ _ _ _ _ _ => Restrict.ldmReturn_eq_none, ?coprocessor⟩
  case singleImm =>
    intro op form v c u rn rd
    cases op <;> cases form <;> simp [SingleOp.instr, restriction, Restrict.singleImm_eq_none, SingleOp.width]
  case singleReg =>
    intro op form amount kind rm c u rn rd
    cases op <;> cases form <;> simp [SingleOp.instr, restriction, Restrict.singleReg_eq_none, SingleOp.width]
  case halfImm => intro op h l c p u w rn rd; cases op <;> exact Restrict.halfwordImm_eq_none
  case halfReg => intro op rm c p u w rn rd; cases op <;> exact Restrict.halfwordReg_eq_none
  case halfField =>
    intro c p u w rn rd sbz rm h
    have hfield := Restrict.halfwordReg_of_ne h p w rn rd rm
    exact ⟨hfield, hfield, hfield, hfield⟩
  case coprocessor =>
    intro form c n rn crd cp imm
    refine ⟨?_, by cases form <;> rfl⟩
    cases form <;> simp [CpForm.ldc, restriction, Restrict.cpTransfer_eq_none]

end Sys2Proof.Proofs

/-! ## Memory, the frame of an ordinary instruction, and the status word (R23, R31, R60, R62, R63) -/

namespace Sys2Proof.Machine

open Sys2Proof.Claims

/-! ### Bytes stored and read -/

theorem touchesDevice_eq_false {cfg : Config} {a : Nat} {w : Width} :
    touchesDevice cfg a w = false ↔ ∀ k < Width.bytes w, isDevice cfg (a + k) = false := by
  simp [touchesDevice]

/-- Outside device space a data read finds memory's byte. -/
theorem State.dataByte_of_plain {s : State} {a : Nat} (h : isDevice s.cfg a = false) : s.dataByte a = s.mem.read a := by
  simp [State.dataByte, h]

/-- Outside device space a data read finds the bytes just stored, zero-extended. -/
theorem dataValue_of_stored {s : State} {a : Nat} {w : Width} {v : Word} (hd : touchesDevice s.cfg a w = false)
    (hv : ∀ k < Width.bytes w, s.mem.read (a + k) = byteOf v k) :
    s.dataValue a w = v &&& (BitVec.ofNat 32 (2 ^ (8 * Width.bytes w) - 1)) := by
  have hbyte : ∀ k < Width.bytes w, s.dataByte (a + k) = byteOf v k := fun k hk => by
    rw [State.dataByte_of_plain (touchesDevice_eq_false.1 hd k hk), hv k hk]
  have h0 := hbyte 0
  simp only [Nat.add_zero] at h0
  cases w
  case byte =>
    simp only [State.dataValue, h0 (by decide), byteOf, Width.bytes]
    apply BitVec.eq_of_getLsbD_eq; intro i hi; interval_cases i <;> simp
  case half =>
    simp only [State.dataValue, h0 (by decide), hbyte 1 (by decide), byteOf, Width.bytes]
    apply BitVec.eq_of_getLsbD_eq; intro i hi
    simp only [BitVec.getLsbD_setWidth, BitVec.getLsbD_append, BitVec.getLsbD_extractLsb', BitVec.getLsbD_and]
    interval_cases i <;> simp
  case word =>
    simp only [State.dataValue, h0 (by decide), hbyte 1 (by decide), hbyte 2 (by decide), hbyte 3 (by decide), wordOfBytes_byteOf,
      Width.bytes]
    exact (BitVec.and_allOnes (x := v)).symm

/-! ### The frame of an ordinary instruction

`Frame` holds where the instruction begins and goes through every write but a write of an SPSR. -/

theorem State.getPhys_pc (s : State) {q : PhysReg} (hq : q ≠ .pc) (v : Word) : State.getPhys { s with pc := v } q = s.getPhys q :=
  State.getPhys_of_banks (s := s) (t := { s with pc := v }) rfl hq

theorem frame_of_banks {s t : State} (hb : t.banks = s.banks) (hc : t.cfg = s.cfg) (hs : t.spsr = s.spsr)
    (hl : t.lines = s.lines) (hw : t.userBankWindow = false) : Frame s t [] :=
  ⟨hc, hs, hl, hw, fun _ hq _ => State.getPhys_of_banks hb hq⟩

theorem frame_setPhys {s t : State} {written : List PhysReg} (h : Frame s t written) (q : PhysReg) (v : Word) :
    Frame s (t.setPhys q v) (q :: written) := by
  obtain ⟨hc, hs, hl, hw, hr⟩ := h
  refine ⟨by simpa, by simpa, by simpa, by simpa, fun q' hq hmem => ?_⟩
  rw [List.mem_cons, not_or] at hmem
  rw [State.getPhys_setPhys_other _ hmem.1, hr q' hq hmem.2]

theorem frame_setReg {s t : State} {written : List PhysReg} (h : Frame s t written) (hm : t.mode = s.mode) (r : RegNo) (v : Word) :
    Frame s (t.setReg r v) (s.phys r :: written) := by
  have := frame_setPhys h (s.phys r) v
  rwa [State.phys, ← hm] at this ⊢

/-- What keeps the banks, the SPSRs, the parameters, the lines and the hazard keeps the frame. -/
theorem frame_congr {s t u : State} {written : List PhysReg} (h : Frame s t written) (hb : u.banks = t.banks)
    (hc : u.cfg = t.cfg) (hs : u.spsr = t.spsr) (hl : u.lines = t.lines) (hw : u.userBankWindow = t.userBankWindow) :
    Frame s u written := by
  obtain ⟨hc', hs', hl', hw', hr⟩ := h
  exact ⟨hc.trans hc', hs.trans hs', hl.trans hl', hw.trans hw', fun q hq hm => (State.getPhys_of_banks hb hq).trans (hr q hq hm)⟩

theorem frame_mono {s t : State} {written written' : List PhysReg} (h : Frame s t written) (hw : written ⊆ written') :
    Frame s t written' := by
  obtain ⟨hc, hs, hl, hwin, hr⟩ := h
  exact ⟨hc, hs, hl, hwin, fun q hq hm => hr q hq fun h => hm (hw h)⟩

/-! ### The fields of a status word -/

theorem flagsAre_psrWithFlags (p : Word) (n z c v : Bool) : FlagsAre p (psrWithFlags p n z c v) n z c v := by
  have hbits : ∀ i < 28, (psrWithFlags p n z c v).getLsbD i = p.getLsbD i := by
    intro i hi
    simp only [psrWithFlags, BitVec.getLsbD_append, BitVec.getLsbD_extractLsb', hi, if_true, decide_true, Bool.true_and, Nat.zero_add]
  refine ⟨?_, ?_, ?_, ?_, ?_⟩
  case refine_5 =>
    apply BitVec.eq_of_getLsbD_eq; intro i hi
    simp only [BitVec.getLsbD_extractLsb', hi, decide_true, Bool.true_and, Nat.zero_add, hbits i hi]
  all_goals
    simp only [psrN, psrZ, psrC, psrV, psrWithFlags, bit, BitVec.getLsbD_append]
    simp

/-- The bits below 28 of a status word hold its mode. -/
theorem psrMode_of_low_bits {p p' : Word} (h : p'.extractLsb' 0 28 = p.extractLsb' 0 28) : psrMode p' = psrMode p := by
  have hmode : ∀ q : Word, psrMode q = (q.extractLsb' 0 28).extractLsb' 0 5 := by
    intro q; apply BitVec.eq_of_getLsbD_eq; intro i hi
    simp only [psrMode, BitVec.getLsbD_extractLsb', hi, decide_true, Bool.true_and]
    simp; omega
  rw [hmode, hmode p, h]

@[simp] theorem psrMode_psrWithFlags (p : Word) (n z c v : Bool) : psrMode (psrWithFlags p n z c v) = psrMode p :=
  psrMode_of_low_bits (flagsAre_psrWithFlags p n z c v).2.2.2.2

@[simp] theorem psrMode_psrWithAlu (p : Word) (o : AluOut) : psrMode (psrWithAlu p o) = psrMode p := psrMode_psrWithFlags ..

/-! ### The end of an instruction -/

/-- An instruction that has done its writes advances, and no more. -/
theorem finish_completes {s u : State} {written : List PhysReg} (hframe : Frame s u written) (hpc : u.pc = s.pc)
    (htop : s.pc.toNat < 0xFFFFFFFC) :
    ∃ t, finish u = .next t ∧ (∀ q, q ≠ .pc → t.getPhys q = u.getPhys q) ∧ t.pc = s.pc + 4 ∧ t.cpsr = u.cpsr ∧
      Frame s t written ∧ NoCoprocessor u t ∧ t.mem = u.mem :=
  ⟨{ u with pc := u.pc + 4 }, finish_eq (by rwa [hpc]), fun _ hq => u.getPhys_pc hq _, by rw [← hpc], rfl,
    frame_congr hframe rfl rfl rfl rfl rfl, ⟨rfl, rfl⟩, rfl⟩

/-- A register written in a state of the same mode reads back. -/
theorem State.getPhys_setReg_same {s u : State} (h : u.mode = s.mode) (r : RegNo) (v : Word) :
    (u.setReg r v).getPhys (s.phys r) = v := by
  rw [State.setReg, State.phys, h, State.phys, State.getPhys_setPhys_same]

/-- Writing a register leaves every other physical register. -/
theorem State.getPhys_setReg_other {s u : State} (h : u.mode = s.mode) {r : RegNo} {q : PhysReg} (hq : q ≠ s.phys r) (v : Word) :
    (u.setReg r v).getPhys q = u.getPhys q :=
  State.getPhys_setPhys_other u (by rwa [State.phys, h]) v

/-- An instruction that writes a register below r15 and, it may be, the status word, and then advances. -/
theorem finish_setReg {s : State} {p : Word} {n : Nat} {rd : RegNo} (v : Word) (hrd : rd ≠ 15) (htop : s.pc.toNat < 0xFFFFFFFC)
    (hmode : psrMode p = psrMode s.cpsr) :
    ∃ t, finish (State.setReg { s with cpsr := p, draws := n, userBankWindow := false } rd v) = .next t ∧
      t.getPhys (s.phys rd) = v ∧ t.pc = s.pc + 4 ∧ t.cpsr = p ∧ Frame s t [s.phys rd] ∧ NoCoprocessor s t ∧ SameMemory s t := by
  obtain ⟨u, hu⟩ : ∃ u, u = ({ s with cpsr := p, draws := n, userBankWindow := false } : State) := ⟨_, rfl⟩
  have hum : u.mode = s.mode := by rw [hu]; exact congrArg Mode.ofBits hmode
  have hframe : Frame s u [] := by rw [hu]; exact frame_of_banks rfl rfl rfl rfl rfl
  obtain ⟨t, hnext, hregs, hpc, hcpsr, hft, ⟨hreplies, hsent⟩, hmem⟩ :=
    finish_completes (frame_setReg hframe hum rd v) ((State.setReg_pc u hrd v).trans (by rw [hu])) htop
  rw [← hu]
  exact ⟨t, hnext, (hregs _ (s.phys_ne_pc hrd)).trans (State.getPhys_setReg_same hum rd v), hpc, by simp [hcpsr, hu], hft,
    ⟨by simp [hreplies, hu], by simp [hsent, hu]⟩, fun a => by simp [hmem, hu]⟩

/-- An instruction that writes two registers below r15 and, it may be, the status word, and then advances. -/
theorem finish_setReg_setReg {s : State} {p : Word} {n : Nat} {ra rb : RegNo} (va vb : Word) (ha : ra ≠ 15) (hb : rb ≠ 15)
    (hab : rb ≠ ra) (htop : s.pc.toNat < 0xFFFFFFFC) (hmode : psrMode p = psrMode s.cpsr) :
    ∃ t, finish ((State.setReg { s with cpsr := p, draws := n, userBankWindow := false } ra va).setReg rb vb) = .next t ∧
      t.getPhys (s.phys ra) = va ∧ t.getPhys (s.phys rb) = vb ∧ t.pc = s.pc + 4 ∧ t.cpsr = p ∧
      Frame s t [s.phys rb, s.phys ra] ∧ NoCoprocessor s t ∧ SameMemory s t := by
  obtain ⟨u, hu⟩ : ∃ u, u = ({ s with cpsr := p, draws := n, userBankWindow := false } : State) := ⟨_, rfl⟩
  have hum : u.mode = s.mode := by rw [hu]; exact congrArg Mode.ofBits hmode
  have hum' : (u.setReg ra va).mode = s.mode := by rw [State.setReg_mode, hum]
  have hframe : Frame s u [] := by rw [hu]; exact frame_of_banks rfl rfl rfl rfl rfl
  have hpc' : ((u.setReg ra va).setReg rb vb).pc = s.pc := by rw [State.setReg_pc _ hb, State.setReg_pc u ha, hu]
  have hne : s.phys ra ≠ s.phys rb := fun h => hab (bank_injective _ h).symm
  obtain ⟨t, hnext, hregs, hpc, hcpsr, hft, ⟨hreplies, hsent⟩, hmem⟩ :=
    finish_completes (frame_setReg (frame_setReg hframe hum ra va) hum' rb vb) hpc' htop
  rw [← hu]
  refine ⟨t, hnext, ?_, (hregs _ (s.phys_ne_pc hb)).trans (State.getPhys_setReg_same hum' rb vb), hpc, by simp [hcpsr, hu], hft,
    ⟨by simp [hreplies, hu], by simp [hsent, hu]⟩, fun a => by simp [hmem, hu]⟩
  rw [hregs _ (s.phys_ne_pc ha), State.getPhys_setReg_other hum' hne, State.getPhys_setReg_same hum]

/-- An instruction that writes the status word alone and then advances. -/
theorem finish_status {s : State} {p : Word} {n : Nat} (htop : s.pc.toNat < 0xFFFFFFFC) :
    ∃ t, finish { s with cpsr := p, draws := n, userBankWindow := false } = .next t ∧
      t.pc = s.pc + 4 ∧ t.cpsr = p ∧ Frame s t [] ∧ NoCoprocessor s t ∧ SameMemory s t :=
  ⟨_, finish_eq htop, rfl, rfl, frame_of_banks rfl rfl rfl rfl rfl, ⟨rfl, rfl⟩, fun _ => rfl⟩

end Sys2Proof.Machine

namespace Sys2Proof.Proofs

open Sys2Proof.Machine Sys2Proof.Claims

/-- Settles O24: the access goes to one address, and what it stored there is what a read finds. -/
theorem storeThenLoadGivesTheBytes : Obligations.StoreThenLoadGivesTheBytes := by
  intro w addr v priv s t hwf hdone
  have htwf := memWrite_wf hwf hdone
  obtain ⟨a, ha, -, rfl⟩ := memWrite_done.1 hdone
  have hbytes := fun k (hk : k < Width.bytes w) => Memory.read_writeBytes_same hwf v (accessAddress_fits ha) hk
  refine ⟨a, ha, rfl, htwf, fun b hb => Memory.read_writeBytes_other _ v hb, hbytes, fun hdev habort => ?_⟩
  refine memRead_done.2 ⟨a, ha, habort, ?_, by simp [hdev]⟩
  exact (dataValue_of_stored (s := { s with mem := s.mem.writeBytes a.toNat v (Width.bytes w) }) hdev hbytes).symm

end Sys2Proof.Proofs

/-! ## Data processing (R190 to R214)

Every operation in every form is its function of the arithmetic unit, then `dataResult` or `dataTest`; the function agrees with the effect
column of R190 and the flags of R191 and R214. -/

namespace Sys2Proof.Machine

open Sys2Proof.Claims

/-! ### The arithmetic unit -/

/-- What the arithmetic unit gives for an operation: the functions the meanings use. -/
def DpOp.alu (op : DpOp) (rn : Word) (o : Operand) (p : Word) : AluOut :=
  match op with
  | .and => aluAnd rn o p | .eor => aluEor rn o p | .sub => aluSub rn o p | .rsb => aluRsb rn o p
  | .add => aluAdd rn o p | .adc => aluAdc rn o p | .sbc => aluSbc rn o p | .rsc => aluRsc rn o p
  | .tst => aluTst rn o p | .teq => aluTeq rn o p | .cmp => aluCmp rn o p | .cmn => aluCmn rn o p
  | .orr => aluOrr rn o p | .mov => aluMov o p | .bic => aluBic rn o p | .mvn => aluMvn o p

/-- A data-processing instruction that runs is its operation on its operand. -/
theorem exec_dataProcessing {op : DpOp} {form : DpForm} {c : Cond} {sf : Bool} {rn rd : RegNo} {s : State}
    (h : Ready (op.instr form c sf rn rd) s) :
    exec (op.instr form c sf rn rd) s =
      (if op.isTest then dataTest (DpOp.alu op (s.reg rn) (form.operand s) s.cpsr) { s with userBankWindow := false }
      else dataResult sf rd (DpOp.alu op (s.reg rn) (form.operand s) s.cpsr) { s with userBankWindow := false }) := by
  cases op <;> cases form <;> exact guarded_ready h _

/-! ### The sum of R9 -/

theorem addWithCarry_result (x y : Word) (c : Bool) :
    (addWithCarry x y c).result = x + y + (if c then 1 else 0) := by
  cases c <;> simp [addWithCarry, BitVec.ofNat_add]

theorem not_eq_neg_sub_one (x : Word) : ~~~x = -x - 1 := by
  rw [BitVec.neg_eq_not_add]; simp

theorem toNat_not_word (x : Word) : (~~~x).toNat = 2 ^ 32 - 1 - x.toNat := by simp

theorem toInt_not_word (x : Word) : (~~~x).toInt = -x.toInt - 1 := by
  have hx := x.isLt
  simp only [BitVec.toInt_eq_toNat_cond, toNat_not_word]
  split <;> split <;> omega

theorem DpOp.alu_result (op : DpOp) (rn : Word) (o : Operand) (p : Word) :
    (DpOp.alu op rn o p).result = op.result rn o.value (psrC p) := by
  cases op
  case and | eor | tst | teq | orr | mov | bic | mvn => rfl
  case add | cmn => simp [DpOp.alu, aluAdd, aluCmn, addWithCarry_result, DpOp.result]
  case adc => exact addWithCarry_result ..
  case sub | cmp | rsb | sbc | rsc =>
    simp only [DpOp.alu, aluSub, aluCmp, aluRsb, aluSbc, aluRsc, addWithCarry_result, DpOp.result, not_eq_neg_sub_one, if_true]
    ring

/-- C of an arithmetic operation is the carry of the exact unsigned sum. -/
theorem DpOp.alu_carry (op : DpOp) (rn : Word) (o : Operand) (p : Word) :
    (DpOp.alu op rn o p).carry = if op.isLogical then o.carry else op.carryOut rn o.value (psrC p) := by
  have hrn := rn.isLt
  have ho := o.value.isLt
  cases op
  case and | eor | tst | teq | orr | mov | bic | mvn => rfl
  case add | cmn | adc => rfl
  case sub | cmp | rsb | sbc | rsc =>
    simp only [DpOp.alu, aluSub, aluCmp, aluRsb, aluSbc, aluRsc, addWithCarry, DpOp.isLogical, DpOp.carryOut, toNat_not_word,
      Bool.toNat_true, Bool.false_eq_true, if_false, decide_eq_decide]
    omega

theorem DpOp.overflowOut_eq_true {op : DpOp} {rn op2 : Word} {c : Bool} :
    op.overflowOut rn op2 c = true ↔ op.exact rn op2 c < -2 ^ 31 ∨ 2 ^ 31 - 1 < op.exact rn op2 c := decide_eq_true_iff

/-- V of an arithmetic operation says that the exact signed value does not fit. -/
theorem DpOp.alu_overflow (op : DpOp) (rn : Word) (o : Operand) (p : Word) :
    (DpOp.alu op rn o p).overflow = if op.isLogical then psrV p else op.overflowOut rn o.value (psrC p) := by
  cases op
  case and | eor | tst | teq | orr | mov | bic | mvn => rfl
  case adc => exact (Bool.decide_or _ _).symm
  all_goals
    refine Bool.eq_iff_iff.2 ?_
    simp only [DpOp.alu, aluSub, aluCmp, aluRsb, aluAdd, aluCmn, aluSbc, aluRsc, addWithCarry, DpOp.isLogical,
      DpOp.overflowOut_eq_true, DpOp.exact, toInt_not_word, Bool.toNat_true, Bool.toNat_false, Bool.false_eq_true, if_false,
      Bool.or_eq_true, decide_eq_true_eq]
    omega

/-- The flags follow R191. -/
theorem DpOp.flagsSet_alu (op : DpOp) (s : State) (rn : Word) (o : Operand) :
    op.FlagsSet s rn o (psrWithAlu s.cpsr (DpOp.alu op rn o s.cpsr)) := by
  have h := flagsAre_psrWithFlags s.cpsr ((DpOp.alu op rn o s.cpsr).result.getLsbD 31)
    ((DpOp.alu op rn o s.cpsr).result == 0) (DpOp.alu op rn o s.cpsr).carry (DpOp.alu op rn o s.cpsr).overflow
  rw [DpOp.alu_carry, DpOp.alu_overflow, DpOp.alu_result] at h
  unfold DpOp.FlagsSet psrWithAlu
  rw [DpOp.alu_carry, DpOp.alu_overflow, DpOp.alu_result]
  exact h

/-! ### The ends of a data-processing instruction -/

/-- A result for a register below r15. -/
theorem dataResult_register {s : State} {sf : Bool} {rd : RegNo} (o : AluOut) (hrd : rd ≠ 15) (htop : s.pc.toNat < 0xFFFFFFFC) :
    ∃ t, dataResult sf rd o { s with userBankWindow := false } = .next t ∧ t.getPhys (s.phys rd) = o.result ∧ t.pc = s.pc + 4 ∧
      t.cpsr = (if sf then psrWithAlu s.cpsr o else s.cpsr) ∧ Frame s t [s.phys rd] ∧ NoCoprocessor s t ∧ SameMemory s t := by
  rw [dataResult, if_neg hrd]
  cases sf
  case false => exact finish_setReg (n := s.draws) o.result hrd htop rfl
  case true => exact finish_setReg (n := s.draws) o.result hrd htop (psrMode_psrWithAlu ..)

end Sys2Proof.Machine

namespace Sys2Proof.Proofs

open Sys2Proof.Machine Sys2Proof.Claims

/-- An operation with a destination below r15, logical or arithmetic (O27, O28). -/
theorem dataProcessing_completes {op : DpOp} {form : DpForm} {c : Cond} {sf : Bool} {rn rd : RegNo} {s : State}
    (htest : op.isTest = false) (h : Ready (op.instr form c sf rn rd) s) (hrd : rd ≠ 15) (htop : s.pc.toNat < 0xFFFFFFFC) :
    ∃ t, exec (op.instr form c sf rn rd) s = .next t ∧
      t.getPhys (s.phys rd) = op.result (s.reg rn) (form.operand s).value (psrC s.cpsr) ∧ t.pc = s.pc + 4 ∧
      (sf = false → t.cpsr = s.cpsr) ∧ (sf = true → op.FlagsSet s (s.reg rn) (form.operand s) t.cpsr) ∧
      Frame s t [s.phys rd] ∧ NoCoprocessor s t ∧ SameMemory s t := by
  obtain ⟨t, hnext, hres, hpc, hcpsr, hrest⟩ :=
    dataResult_register (sf := sf) (DpOp.alu op (s.reg rn) (form.operand s) s.cpsr) hrd htop
  refine ⟨t, ?_, by rw [hres, DpOp.alu_result], hpc, fun hs => by rw [hcpsr, hs]; rfl, fun hs => ?_, hrest⟩
  · rw [exec_dataProcessing h, htest]; exact hnext
  · rw [hcpsr, hs]; exact DpOp.flagsSet_alu ..

/-- Settles O27. -/
theorem logicalOperationsComplete : Obligations.LogicalOperationsComplete :=
  fun _ _ _ _ _ _ _ _ htest h hrd htop => dataProcessing_completes htest h hrd htop

/-- Settles O28. -/
theorem arithmeticOperationsComplete : Obligations.ArithmeticOperationsComplete :=
  fun _ _ _ _ _ _ _ _ htest h hrd htop => dataProcessing_completes htest h hrd htop

/-- Settles O29. -/
theorem testsSetTheFlags : Obligations.TestsSetTheFlags := by
  intro op form c sf rn rd s htest h htop
  obtain ⟨t, hnext, hpc, hcpsr, hrest⟩ :=
    finish_status (p := psrWithAlu s.cpsr (DpOp.alu op (s.reg rn) (form.operand s) s.cpsr)) (n := s.draws) htop
  refine ⟨t, ?_, hpc, by rw [hcpsr]; exact DpOp.flagsSet_alu .., hrest⟩
  rw [exec_dataProcessing h, htest]; exact hnext

/-- Settles O30: without S a result in r15 goes to `branchTo`. -/
theorem dataProcessingBranches : Obligations.DataProcessingBranches := by
  intro op form c rn s htest h
  have hexec : exec (op.instr form c false rn 15) s =
      branchTo (op.result (s.reg rn) (form.operand s).value (psrC s.cpsr)) { s with userBankWindow := false } := by
    rw [exec_dataProcessing h, htest, ← DpOp.alu_result]; rfl
  refine ⟨fun halign => ?aligned, fun hmis => ?misaligned⟩
  case aligned =>
    have hnext := hexec.trans (branchTo_next.2 ⟨halign, rfl⟩)
    exact ⟨_, hnext, rfl, rfl, frame_of_banks rfl rfl rfl rfl rfl, ⟨rfl, rfl⟩, fun _ => rfl⟩
  case misaligned => rw [hexec, branchTo, if_neg hmis]; rfl

/-- Settles O31: with S a result in r15 goes to `exceptionReturn`. -/
theorem dataProcessingExceptionReturn : Obligations.DataProcessingExceptionReturn := by
  intro op form c rn s htest hthumb h
  have hexec : exec (op.instr form c true rn 15) s =
      exceptionReturn (op.result (s.reg rn) (form.operand s).value (psrC s.cpsr)) { s with userBankWindow := false } := by
    rw [exec_dataProcessing h, htest, ← DpOp.alu_result]; rfl
  have hreturn : ∀ p, s.currentSpsr = some p → Mode.ofBits (psrMode p) ≠ none →
      State.returnPsr { s with userBankWindow := false } = .ok p := fun p hp hm =>
    State.returnPsr_ok.2 ⟨p, hp, hm, by simp [State.cpsrFrom, hthumb]⟩
  refine ⟨fun hno => ?noSpsr, fun p hp => ⟨fun hm => ?noMode, fun hm hT hmis => ?misaligned, fun hm hok => ?returns⟩⟩
  case noSpsr => rw [hexec, exceptionReturn, State.returnPsr, State.currentSpsr_window, hno]; rfl
  case noMode => rw [hexec, exceptionReturn, State.returnPsr, State.currentSpsr_window, hp]; simp [State.restorable, hm, refuse]
  case misaligned => rw [hexec, exceptionReturn, hreturn p hp hm]; simp [hT, hmis, refuse]
  case returns =>
    have hnext := hexec.trans (exceptionReturn_next.2 ⟨p, hreturn p hp hm, hok, rfl⟩)
    exact ⟨_, hnext, rfl, rfl, frame_of_banks rfl rfl rfl rfl rfl, ⟨rfl, rfl⟩, fun _ => rfl⟩

end Sys2Proof.Proofs

/-! ## The multiplies and CLZ (R240 to R249) -/

namespace Sys2Proof.Machine

open Sys2Proof.Claims

/-! ### Exact products and sums, narrowed -/

theorem ofNat_mul_toNat (x y : Word) : BitVec.ofNat 32 (x.toNat * y.toNat) = x * y := by
  rw [BitVec.ofNat_mul]; simp

theorem ofNat_mul_add_toNat (x y z : Word) : BitVec.ofNat 32 (x.toNat * y.toNat + z.toNat) = x * y + z := by
  rw [BitVec.ofNat_add, ofNat_mul_toNat]; simp

theorem ofInt_toNat_eq_setWidth (x : Word) : BitVec.ofInt 64 (x.toNat : Int) = x.setWidth 64 := by
  rw [BitVec.ofInt_natCast, BitVec.ofNat_toNat]

/-- The exact value of a long multiply, narrowed to 64 bits (R243, R244, R247, R248). -/
def LongOp.exact (op : LongOp) (rm rs : Word) (acc : BitVec 64) : Int :=
  match op with
  | .umull => rm.toNat * rs.toNat
  | .umlal => rm.toNat * rs.toNat + acc.toNat
  | .smull => rm.toInt * rs.toInt
  | .smlal => rm.toInt * rs.toInt + acc.toNat

theorem LongOp.ofInt_exact (op : LongOp) (rm rs : Word) (acc : BitVec 64) :
    BitVec.ofInt 64 (LongOp.exact op rm rs acc) = op.result rm rs acc := by
  cases op <;>
    simp only [LongOp.exact, LongOp.result, BitVec.ofInt_add, BitVec.ofInt_mul, ofInt_toNat_eq_setWidth, ofInt_toNat] <;> rfl

/-- A long multiply that runs narrows its exact value. -/
theorem exec_longMultiply {op : LongOp} {c : Cond} {sf : Bool} {rdHi rdLo rs rm : RegNo} {s : State}
    (h : Ready (op.instr c sf rdHi rdLo rs rm) s) :
    exec (op.instr c sf rdHi rdLo rs rm) s =
      multiplyLongResult sf rdHi rdLo (LongOp.exact op (s.reg rm) (s.reg rs) (s.reg rdHi ++ s.reg rdLo))
        { s with userBankWindow := false } := by
  cases op <;> exact guarded_ready h _

/-! ### The ends of a multiply -/

/-- Nothing is said of C where it is a free value. -/
theorem flagsAre_carry_free {p p' : Word} {n z c v : Bool} (h : FlagsAre p p' n z c v) : FlagsAre p p' n z (psrC p') v := by
  obtain ⟨hn, hz, -, hv, hbits⟩ := h
  exact ⟨hn, hz, rfl, hv, hbits⟩

/-- The status word after a multiply. -/
def multiplyStatus (sf : Bool) (n z : Bool) (s : State) : Word :=
  if sf then psrWithFlags s.cpsr n z (Config.drawBit s.draws) (psrV s.cpsr) else s.cpsr

theorem psrMode_multiplyStatus (sf n z : Bool) (s : State) : psrMode (multiplyStatus sf n z s) = psrMode s.cpsr := by
  cases sf
  case false => rfl
  case true => exact psrMode_psrWithFlags ..

theorem flagsAre_multiplyStatus (n z : Bool) (s : State) :
    FlagsAre s.cpsr (multiplyStatus true n z s) n z (psrC (multiplyStatus true n z s)) (psrV s.cpsr) :=
  flagsAre_carry_free (flagsAre_psrWithFlags ..)

theorem multiplyResult_completes {s : State} {sf : Bool} {rd : RegNo} {value : Nat} {r : Word} (hr : BitVec.ofNat 32 value = r)
    (hrd : rd ≠ 15) (htop : s.pc.toNat < 0xFFFFFFFC) :
    ∃ t, multiplyResult sf rd value { s with userBankWindow := false } = .next t ∧ t.getPhys (s.phys rd) = r ∧ t.pc = s.pc + 4 ∧
      (sf = false → t.cpsr = s.cpsr) ∧ (sf = true → FlagsAre s.cpsr t.cpsr (r.getLsbD 31) (r == 0) (psrC t.cpsr) (psrV s.cpsr)) ∧
      Frame s t [s.phys rd] ∧ NoCoprocessor s t ∧ SameMemory s t := by
  have hend := finish_setReg (n := if sf then s.draws + 1 else s.draws) r hrd htop
    (psrMode_multiplyStatus sf (r.getLsbD 31) (r == 0) s)
  obtain ⟨t, hnext, hreg, hpc, hcpsr, hrest⟩ := hend
  refine ⟨t, ?_, hreg, hpc, fun hs => by rw [hcpsr, hs]; rfl, fun hs => ?_, hrest⟩
  · rw [multiplyResult, hr, ← hnext]; cases sf <;> rfl
  · rw [hcpsr, hs]; exact flagsAre_multiplyStatus ..

theorem multiplyLongResult_completes {s : State} {sf : Bool} {rdHi rdLo : RegNo} {value : Int} {r : BitVec 64}
    (hr : BitVec.ofInt 64 value = r) (hhi : rdHi ≠ 15) (hlo : rdLo ≠ 15) (hne : rdHi ≠ rdLo) (htop : s.pc.toNat < 0xFFFFFFFC) :
    ∃ t, multiplyLongResult sf rdHi rdLo value { s with userBankWindow := false } = .next t ∧
      t.getPhys (s.phys rdHi) ++ t.getPhys (s.phys rdLo) = r ∧ t.pc = s.pc + 4 ∧ (sf = false → t.cpsr = s.cpsr) ∧
      (sf = true → FlagsAre s.cpsr t.cpsr (r.getLsbD 63) (r == 0) (psrC t.cpsr) (psrV s.cpsr)) ∧
      Frame s t [s.phys rdHi, s.phys rdLo] ∧ NoCoprocessor s t ∧ SameMemory s t := by
  obtain ⟨t, hnext, hregLo, hregHi, hpc, hcpsr, hrest⟩ := finish_setReg_setReg (n := if sf then s.draws + 1 else s.draws)
    (r.extractLsb' 0 32) (r.extractLsb' 32 32) hlo hhi hne htop (psrMode_multiplyStatus sf (r.getLsbD 63) (r == 0) s)
  refine ⟨t, ?_, ?_, hpc, fun hs => by rw [hcpsr, hs]; rfl, fun hs => ?_, hrest⟩
  · rw [multiplyLongResult, hr, ← hnext]; cases sf <;> rfl
  · rw [hregLo, hregHi]
    exact BitVec.extractLsb'_append_extractLsb'_eq_extractLsb' (by rfl) |>.trans (by simp)
  · rw [hcpsr, hs]; exact flagsAre_multiplyStatus ..

/-! ### Count leading zeros -/

/-- Leading zeros of a list that holds a one: all bits before their number are 0, and the one at it is 1. -/
theorem leadingZeros_spec {bs : List Bool} :
    (leadingZeros bs = bs.length ∧ ∀ b ∈ bs, b = false) ∨
      (bs[leadingZeros bs]? = some true ∧ ∀ k < leadingZeros bs, bs[k]? = some false) := by
  induction bs with
  | nil => exact .inl ⟨rfl, by simp⟩
  | cons b bs ih =>
    cases b
    case true => exact .inr ⟨rfl, by simp [leadingZeros]⟩
    case false =>
      rcases ih with ⟨hlen, hall⟩ | ⟨hone, hzero⟩
      · exact .inl ⟨by simp [leadingZeros, hlen], by simpa using hall⟩
      · refine .inr ⟨by simpa [leadingZeros] using hone, fun k hk => ?_⟩
        cases k with
        | zero => rfl
        | succ k => simpa using hzero k (by simp [leadingZeros] at hk; omega)

theorem bits_getElem? (v : Word) (k : Nat) :
    ((List.range 32).map fun i => v.getLsbD (31 - i))[k]? = if k < 32 then some (v.getLsbD (31 - k)) else none := by
  by_cases hk : k < 32 <;> simp [hk]

/-- The count lies between the powers of two that bound the value (R249). -/
theorem countLeadingZeros_spec (v : Word) :
    (v = 0 → countLeadingZeros v = 32) ∧
    (v ≠ 0 → countLeadingZeros v ≤ 31 ∧ 2 ^ (31 - countLeadingZeros v) ≤ v.toNat ∧ v.toNat < 2 ^ (32 - countLeadingZeros v)) := by
  refine ⟨fun h => by subst h; decide, fun h => ?_⟩
  rcases leadingZeros_spec (bs := (List.range 32).map fun i => v.getLsbD (31 - i)) with ⟨-, hall⟩ | ⟨hone, hzero⟩
  · refine absurd (BitVec.eq_of_getLsbD_eq fun i hi => ?_) h
    simpa using hall (v.getLsbD i) (List.mem_map.2 ⟨31 - i, by simp; omega, by congr 1; omega⟩)
  · change (_ : List Bool)[countLeadingZeros v]? = _ at hone
    change ∀ k < countLeadingZeros v, _ at hzero
    rw [bits_getElem?] at hone
    have hle : countLeadingZeros v < 32 := by by_contra hge; simp [hge] at hone
    rw [if_pos hle, Option.some.injEq] at hone
    refine ⟨by omega, Nat.ge_two_pow_of_testBit hone, Nat.lt_pow_two_of_testBit _ fun i hi => ?_⟩
    by_cases h32 : i < 32
    · have := hzero (31 - i) (by omega)
      rw [bits_getElem?, if_pos (by omega), Option.some.injEq, show 31 - (31 - i) = i by omega] at this
      exact this
    · exact BitVec.getLsbD_of_ge v i (by omega)

end Sys2Proof.Machine

namespace Sys2Proof.Proofs

open Sys2Proof.Machine Sys2Proof.Claims

/-- Settles O32. -/
theorem multipliesComplete : Obligations.MultipliesComplete := by
  intro c sf rd rn rs rm s htop
  refine ⟨fun h => ?mul, fun h => ?mla⟩
  case mul =>
    obtain ⟨-, hrd, -⟩ := Restrict.mul_eq_none.1 h.2.2.1
    rw [show exec (.mul c sf rd 0 rs rm) s = _ from guarded_ready h _]
    exact multiplyResult_completes (ofNat_mul_toNat ..) hrd htop
  case mla =>
    obtain ⟨hrd, -⟩ := Restrict.mla_eq_none.1 h.2.2.1
    rw [show exec (.mla c sf rd rn rs rm) s = _ from guarded_ready h _]
    exact multiplyResult_completes (ofNat_mul_add_toNat ..) hrd htop

/-- Settles O33. -/
theorem longMultipliesComplete : Obligations.LongMultipliesComplete := by
  intro op c sf rdHi rdLo rs rm s h htop
  obtain ⟨hhi, hlo, -, -, -, -, hne⟩ :=
    Restrict.mulLong_eq_none.1 (show Restrict.mulLong rdHi rdLo rs rm = none by cases op <;> exact h.2.2.1)
  simp only [exec_longMultiply h]
  exact multiplyLongResult_completes (LongOp.ofInt_exact ..) hhi hlo hne htop

/-- Settles O34. -/
theorem clzCountsLeadingZeros : Obligations.ClzCountsLeadingZeros := by
  intro c rd rm s h htop
  obtain ⟨-, -, hrd, -⟩ := Restrict.clz_eq_none.1 h.2.2.1
  obtain ⟨hzero, hbounds⟩ := countLeadingZeros_spec (s.reg rm)
  obtain ⟨t, hnext, hreg, hpc, hcpsr, hrest⟩ :=
    finish_setReg (n := s.draws) (BitVec.ofNat 32 (countLeadingZeros (s.reg rm))) hrd htop rfl
  exact ⟨t, countLeadingZeros (s.reg rm), (guarded_ready h _).trans hnext, hreg, hzero, hbounds, hpc, hcpsr, hrest⟩

end Sys2Proof.Proofs

/-! ## Accesses that are made, and accesses that abort (R62, R63, R410, R411, R433, R435) -/

namespace Sys2Proof.Machine

open Sys2Proof.Claims

/-! ### What the memory and the coprocessors leave alone -/

/-- The registers, the status words, the parameters and the inputs are the same: only memory, the record of the coprocessors, the hazard
and the count of free values may differ. -/
structure SameCore (s t : State) : Prop where
  cfg : t.cfg = s.cfg
  banks : t.banks = s.banks
  pc : t.pc = s.pc
  cpsr : t.cpsr = s.cpsr
  spsr : t.spsr = s.spsr
  lines : t.lines = s.lines

theorem SameCore.refl (s : State) : SameCore s s := ⟨rfl, rfl, rfl, rfl, rfl, rfl⟩

theorem SameCore.mode {s t : State} (h : SameCore s t) : t.mode = s.mode := by rw [State.mode, h.cpsr, State.mode]

theorem SameCore.phys {s t : State} (h : SameCore s t) (r : RegNo) : t.phys r = s.phys r := by rw [State.phys, h.mode, State.phys]

theorem SameCore.getPhys {s t : State} (h : SameCore s t) (q : PhysReg) : t.getPhys q = s.getPhys q := by
  cases q <;> simp [State.getPhys, h.banks, h.pc]

theorem SameCore.privileged {s t : State} (h : SameCore s t) : t.privileged = s.privileged := by
  rw [State.privileged, h.cpsr, State.privileged]

theorem SameCore.trans {s t u : State} (h : SameCore s t) (h' : SameCore t u) : SameCore s u :=
  ⟨h'.cfg.trans h.cfg, h'.banks.trans h.banks, h'.pc.trans h.pc, h'.cpsr.trans h.cpsr, h'.spsr.trans h.spsr, h'.lines.trans h.lines⟩

theorem SameCore.frame {s t : State} (h : SameCore s t) (hw : t.userBankWindow = false) : Frame s t [] :=
  frame_of_banks h.banks h.cfg h.spsr h.lines hw

theorem sameCore_window (s : State) (b : Bool) : SameCore s { s with userBankWindow := b } := ⟨rfl, rfl, rfl, rfl, rfl, rfl⟩

/-! ### Accesses -/

@[simp] theorem accessAddress_word (cfg : Config) (a : Word) : accessAddress cfg .word a = some (wordAddress a) := rfl

@[simp] theorem accessAddress_byte (cfg : Config) (a : Word) : accessAddress cfg .byte a = some a := rfl

section Access

variable {s : State} {w : Width} {addr a : Word} {priv : Bool} (ha : accessAddress s.cfg w addr = some a)

include ha

/-- A read that does not abort gives the value there and, it may be, uses up a free value. -/
theorem memRead_eq_done (hb : memAbort s.cfg a w .read priv = false) :
    ∃ n, memRead w addr priv s = .done (s.dataValue a.toNat w, { s with draws := n }) := by
  by_cases hd : touchesDevice s.cfg a.toNat w = true
  · exact ⟨s.draws + 1, memRead_done.2 ⟨a, ha, hb, rfl, by rw [if_pos hd]⟩⟩
  · exact ⟨s.draws, memRead_done.2 ⟨a, ha, hb, rfl, by rw [if_neg hd]⟩⟩

theorem memWrite_eq_done (v : Word) (hb : memAbort s.cfg a w .write priv = false) :
    memWrite w addr v priv s = .done { s with mem := s.mem.writeBytes a.toNat v (Width.bytes w) } :=
  memWrite_done.2 ⟨a, ha, hb, rfl⟩

theorem loadThen_done {tr : Transfer} (haddr : tr.address = addr) (hb : memAbort s.cfg a w .read priv = false) (rn : RegNo)
    (k : Word → State → Result) :
    ∃ n, loadThen w priv tr rn s k = k (s.dataValue a.toNat w) (writeBack tr rn { s with draws := n }) := by
  obtain ⟨n, hn⟩ := memRead_eq_done ha hb
  exact ⟨n, by rw [loadThen, haddr, hn]⟩

theorem loadThen_aborted {tr : Transfer} (haddr : tr.address = addr) (hb : memAbort s.cfg a w .read priv = true) (rn : RegNo)
    (k : Word → State → Result) : loadThen w priv tr rn s k = .next (takeException .dataAbort (abortBase tr rn s)) := by
  rw [loadThen, haddr, memRead_aborted.2 ⟨a, ha, hb⟩]

theorem storeThen_done {tr : Transfer} (haddr : tr.address = addr) (hb : memAbort s.cfg a w .write priv = false) (rn : RegNo) (v : Word) :
    storeThen w priv tr rn v s =
      (if pipelineChanged s.pc s.mem (s.mem.writeBytes a.toNat v (Width.bytes w)) then refuse .storeIntoPipeline
      else finish (writeBack tr rn { s with mem := s.mem.writeBytes a.toNat v (Width.bytes w) })) := by
  rw [storeThen, haddr, memWrite_eq_done ha v hb]; rfl

theorem storeThen_aborted {tr : Transfer} (haddr : tr.address = addr) (hb : memAbort s.cfg a w .write priv = true) (rn : RegNo) (v : Word) :
    storeThen w priv tr rn v s = .next (takeException .dataAbort (abortBase tr rn s)) := by
  rw [storeThen, haddr, memWrite_aborted.2 ⟨a, ha, hb⟩]

end Access

/-- The rotation of a loaded word is the table's (R65). -/
theorem rotatedLoad_eq (address v : Word) : rotatedLoad address v = rotatedByTable address v := by
  have hlt : address.toNat % 4 < 4 := Nat.mod_lt _ (by decide)
  unfold rotatedLoad rotatedByTable
  rw [ror_eq_rotateRight]
  generalize address.toNat % 4 = k at hlt
  interval_cases k
  · simp [BitVec.rotateRight, BitVec.rotateRightAux]
  all_goals rfl

/-! ### The base register of a transfer -/

/-- The base after the transfers of an instruction: written back by the form, and nothing else. -/
theorem writeBack_keeps {s u : State} {tr : Transfer} {rn : RegNo} (h : SameCore s u) (hw : u.userBankWindow = false)
    (hrn : tr.writeback = true → rn ≠ 15) :
    Frame s (writeBack tr rn u) (storeWrites s tr rn) ∧ (writeBack tr rn u).mode = s.mode ∧ (writeBack tr rn u).pc = s.pc ∧
      (tr.writeback = true → (writeBack tr rn u).getPhys (s.phys rn) = tr.target) := by
  unfold writeBack storeWrites
  cases hwb : tr.writeback
  case false => exact ⟨h.frame hw, h.mode, h.pc, nofun⟩
  case true =>
    exact ⟨frame_setReg (h.frame hw) h.mode rn _, by simp [h.mode], (State.setReg_pc u (hrn hwb) _).trans h.pc,
      fun _ => State.getPhys_setReg_same h.mode rn _⟩

/-! ### Data Abort -/

/-- The Data Abort exception from a state with the parameters, the pc, the status words and the inputs of `s`. -/
theorem dataAbort_entered {s u : State} (hcfg : u.cfg = s.cfg) (hcpsr : u.cpsr = s.cpsr) (hpc : u.pc = s.pc)
    (hspsr : u.spsr = s.spsr) (hlines : u.lines = s.lines) : DataAbortEntered s (takeException .dataAbort u) := by
  refine ⟨?_, ?_, ?_, ?_, by simp [hcfg], by simp [hlines], rfl⟩
  · rw [← hcpsr]; rfl
  · rw [← hcfg]; rfl
  · rw [← hpc]; exact enterException_link .dataAbort _ _ u
  · rw [← hcpsr, ← hspsr, takeException, enterException_spsr]; rfl

theorem dataAbort_getPhys (u : State) {q : PhysReg} (hpc : q ≠ .pc) (hlr : q ≠ .abt 1) :
    (takeException .dataAbort u).getPhys q = u.getPhys q :=
  enterException_other .dataAbort _ _ u hpc hlr

/-- The base register of an aborted transfer (R277, R435), in a state that keeps the core of `s`. -/
theorem abortBase_keeps {s u : State} {tr : Transfer} {rn : RegNo} (h : SameCore s u) (hrn : tr.writeback = true → rn ≠ 15) :
    (abortBase tr rn u).pc = s.pc ∧ (∀ q, q ≠ s.phys rn → (abortBase tr rn u).getPhys q = s.getPhys q) ∧
      (s.phys rn ≠ .pc → (abortBase tr rn u).getPhys (s.phys rn) =
        (if tr.writeback = true ∧ s.cfg.abortModel = .baseUpdated then tr.target else s.getPhys (s.phys rn))) := by
  unfold abortBase
  rw [h.cfg]
  cases hmodel : s.cfg.abortModel
  case baseRestored => exact ⟨h.pc, fun q _ => h.getPhys q, fun _ => by simp [h.getPhys]⟩
  case baseUpdated =>
    unfold writeBack
    cases hwb : tr.writeback
    case false => exact ⟨h.pc, fun q _ => h.getPhys q, fun _ => by simp [h.getPhys]⟩
    case true =>
      exact ⟨(State.setReg_pc u (hrn hwb) _).trans h.pc,
        fun q hq => (State.getPhys_setReg_other h.mode hq _).trans (h.getPhys q),
        fun _ => by simpa using State.getPhys_setReg_same h.mode rn tr.target⟩

/-- An aborted transfer: the Data Abort exception, with the base by the abort model and no other register changed. -/
theorem abortBase_aborts {s u : State} {tr : Transfer} {rn : RegNo} (h : SameCore s u) (hrn : tr.writeback = true → rn ≠ 15) :
    DataAbortEntered s (takeException .dataAbort (abortBase tr rn u)) ∧
      (∀ q, q ≠ .pc → q ≠ .abt 1 → q ≠ s.phys rn →
        (takeException .dataAbort (abortBase tr rn u)).getPhys q = s.getPhys q) ∧
      BaseAfterAbort s (takeException .dataAbort (abortBase tr rn u)) tr.writeback tr.target rn := by
  obtain ⟨hpc, hothers, hbase⟩ := abortBase_keeps h hrn
  refine ⟨dataAbort_entered (by simp [h.cfg]) (by simp [h.cpsr]) hpc (by simp [h.spsr]) (by simp [h.lines]),
    fun q hq hlr hne => (dataAbort_getPhys _ hq hlr).trans (hothers q hne), fun hq hlr => ?_⟩
  exact (dataAbort_getPhys _ hq hlr).trans (hbase hq)

end Sys2Proof.Machine

/-! ## Swaps and the status registers (R330 to R338) -/

namespace Sys2Proof.Machine

open Sys2Proof.Claims

/-! ### A swap -/

section Swap

variable {s : State} {w : Width} {rn rd rm : RegNo} {a : Word} (result : Word → Word)
  (ha : accessAddress s.cfg w (s.reg rn) = some a)

include ha

/-- A swap neither of whose accesses aborts. -/
theorem swap_done (hread : memAbort s.cfg a w .read s.privileged = false) (hwrite : memAbort s.cfg a w .write s.privileged = false) :
    ∃ n, swap w rn rd rm result s =
      (if pipelineChanged s.pc s.mem (s.mem.writeBytes a.toNat (s.reg rm) (Width.bytes w)) then refuse .storeIntoPipeline
      else finish (State.setReg { s with draws := n, mem := s.mem.writeBytes a.toNat (s.reg rm) (Width.bytes w) } rd
        (result (s.dataValue a.toNat w)))) := by
  obtain ⟨n, hn⟩ := memRead_eq_done (priv := s.privileged) ha hread
  have hstore := memWrite_eq_done (s := { s with draws := n }) (priv := s.privileged) ha (s.reg rm) hwrite
  exact ⟨n, by rw [swap, hn]; simp only [hstore]; rfl⟩

/-- A swap one of whose accesses aborts takes the Data Abort exception, at most a free value used up. -/
theorem swap_aborted (habort : memAbort s.cfg a w .read s.privileged = true ∨ memAbort s.cfg a w .write s.privileged = true) :
    ∃ n, swap w rn rd rm result s = .next (takeException .dataAbort { s with draws := n }) := by
  cases hread : memAbort s.cfg a w .read s.privileged
  case true => exact ⟨s.draws, by rw [swap, memRead_aborted.2 ⟨a, ha, hread⟩]⟩
  case false =>
    obtain ⟨n, hn⟩ := memRead_eq_done (priv := s.privileged) ha hread
    have hwrite := habort.resolve_left (by simp [hread])
    have hstore : memWrite w (s.reg rn) (s.reg rm) s.privileged { s with draws := n } = .aborted :=
      memWrite_aborted.2 ⟨a, ha, hwrite⟩
    exact ⟨n, by rw [swap, hn]; simp only [hstore]⟩

end Swap

/-! ### Bytes of a status word -/

/-- The mask of the selected bytes. -/
theorem fieldBits_getLsbD : ∀ (fields : BitVec 4), ∀ i < 32, (fieldBits fields).getLsbD i = fields.getLsbD (i / 8) := by decide

theorem topByte_getLsbD : ∀ i < 32, (0xFF000000 : Word).getLsbD i = (i / 8 == 3) := by decide

theorem maskedWrite_getLsbD (old mask new : Word) {i : Nat} (hi : i < 32) :
    (maskedWrite old mask new).getLsbD i = if mask.getLsbD i then new.getLsbD i else old.getLsbD i := by
  simp only [maskedWrite, BitVec.getLsbD_or, BitVec.getLsbD_and, BitVec.getLsbD_not, hi, decide_true, Bool.true_and]
  cases mask.getLsbD i <;> simp

/-- Where a mask selects whole bytes each byte is the new one or the old one. -/
theorem maskedWrite_byte {old mask new : Word} {selects : Nat → Bool} (h : ∀ i < 32, mask.getLsbD i = selects (i / 8)) {k : Nat}
    (hk : k < 4) : (maskedWrite old mask new).extractLsb' (8 * k) 8 = (if selects k then new else old).extractLsb' (8 * k) 8 := by
  apply BitVec.eq_of_getLsbD_eq; intro j hj
  have hbit := h (8 * k + j) (by omega)
  rw [show (8 * k + j) / 8 = k by omega] at hbit
  simp only [BitVec.getLsbD_extractLsb', hj, decide_true, Bool.true_and, maskedWrite_getLsbD old mask new (show 8 * k + j < 32 by omega),
    hbit]
  cases selects k <;> rfl

theorem psrT_of_byte {p q : Word} (h : p.extractLsb' 0 8 = q.extractLsb' 0 8) : psrT p = psrT q := by
  simpa [psrT] using congrArg (fun b : BitVec 8 => b.getLsbD 5) h

theorem psrMode_of_byte {p q : Word} (h : p.extractLsb' 0 8 = q.extractLsb' 0 8) : psrMode p = psrMode q := by
  have hmode : ∀ r : Word, psrMode r = (r.extractLsb' 0 8).extractLsb' 0 5 := by
    intro r; apply BitVec.eq_of_getLsbD_eq; intro i hi
    simp only [psrMode, BitVec.getLsbD_extractLsb', hi, decide_true, Bool.true_and]
    simp; omega
  rw [hmode, h, ← hmode]

/-- The bytes MSR writes in the CPSR: in User mode the flags byte only (R338). -/
def cpsrBytes (fields : BitVec 4) (s : State) (k : Nat) : Bool := fields.getLsbD k && (s.privileged || k == 3)

/-- The CPSR after MSR. -/
def cpsrAfterMsr (fields : BitVec 4) (operand : Word) (s : State) : Word :=
  maskedWrite s.cpsr (if s.privileged then fieldBits fields else fieldBits fields &&& 0xFF000000) operand

theorem cpsrAfterMsr_byte (fields : BitVec 4) (operand : Word) (s : State) {k : Nat} (hk : k < 4) :
    (cpsrAfterMsr fields operand s).extractLsb' (8 * k) 8 =
      (if cpsrBytes fields s k then operand else s.cpsr).extractLsb' (8 * k) 8 := by
  refine maskedWrite_byte (fun i hi => ?_) hk
  unfold cpsrBytes
  cases s.privileged
  · simp only [Bool.false_eq_true, if_false, BitVec.getLsbD_and, fieldBits_getLsbD fields i hi, topByte_getLsbD i hi, Bool.false_or]
  · simp only [if_true, fieldBits_getLsbD fields i hi, Bool.true_or, Bool.and_true]

theorem writeCpsr_eq (fields : BitVec 4) (operand : Word) (s : State) :
    writeCpsr fields operand { s with userBankWindow := false } =
      (if psrT (cpsrAfterMsr fields operand s) != psrT s.cpsr then refuse .msrChangesT
      else if cpsrBytes fields s 0 && (Mode.ofBits (psrMode (cpsrAfterMsr fields operand s))).isNone then refuse .writesNonMode
      else finish { s with cpsr := cpsrAfterMsr fields operand s, userBankWindow := false }) := by
  unfold writeCpsr cpsrBytes
  simp only [show (0 == 3) = false from rfl, Bool.or_false, Bool.and_comm (fields.getLsbD 0)]
  rfl

section LowByte

variable {fields : BitVec 4} {operand : Word} {s : State}

theorem psrT_cpsrAfterMsr : psrT (cpsrAfterMsr fields operand s) = if cpsrBytes fields s 0 then psrT operand else psrT s.cpsr := by
  rw [psrT_of_byte (cpsrAfterMsr_byte fields operand s (k := 0) (by decide))]
  exact apply_ite psrT ..

theorem psrMode_cpsrAfterMsr :
    psrMode (cpsrAfterMsr fields operand s) = if cpsrBytes fields s 0 then psrMode operand else psrMode s.cpsr := by
  rw [psrMode_of_byte (cpsrAfterMsr_byte fields operand s (k := 0) (by decide))]
  exact apply_ite psrMode ..

end LowByte

/-! ### The SPSR of the current mode -/

/-- A mode that has an SPSR reads the one it writes. -/
theorem State.currentSpsr_setSpsr {s : State} {p : Word} (h : s.currentSpsr = some p) (v : Word) :
    (s.setSpsr s.mode v).currentSpsr = some v := by
  have hmode : (s.setSpsr s.mode v).mode = s.mode := by simp [State.mode]
  unfold State.currentSpsr at h ⊢
  rw [hmode]
  cases hm : s.mode with
  | none => simp [hm] at h
  | some m =>
    cases m
    case user | system => simp [hm] at h
    all_goals rfl

theorem writeSpsr_none {s : State} (h : s.currentSpsr = none) (fields : BitVec 4) (operand : Word) :
    writeSpsr fields operand s = refuse .noSpsr := by rw [writeSpsr, h]

theorem writeSpsr_some {s : State} {p : Word} (h : s.currentSpsr = some p) (fields : BitVec 4) (operand : Word) :
    writeSpsr fields operand s = finish (s.setSpsr s.mode (maskedWrite p (fieldBits fields) operand)) := by rw [writeSpsr, h]

end Sys2Proof.Machine

namespace Sys2Proof.Proofs

open Sys2Proof.Machine Sys2Proof.Claims

/-- Settles O35: both sizes are `swap`, with the access at the aligned or at the given address. -/
theorem swapsExchange : Obligations.SwapsExchange := by
  intro c rn rd rm byte s i w a m h
  obtain ⟨result, hexec, hresult, ha⟩ : ∃ result, exec i s = swap w rn rd rm result { s with userBankWindow := false } ∧
      result (s.dataValue a.toNat w) = (if byte then s.dataValue a.toNat .byte else
        rotatedByTable (s.reg rn) (s.dataValue a.toNat .word)) ∧ accessAddress s.cfg w (s.reg rn) = some a := by
    cases byte
    case false => exact ⟨_, guarded_ready h _, rotatedLoad_eq .., rfl⟩
    case true => exact ⟨_, guarded_ready h _, rfl, rfl⟩
  have hrd : rd ≠ 15 := by
    have hrestrict : Restrict.swap rn rd 0 rm = none := by cases byte <;> exact h.2.2.1
    exact (Restrict.swap_eq_none.1 hrestrict).2.2.1
  refine ⟨fun hread hwrite => ?done, fun habort => ?aborted⟩
  case done =>
    obtain ⟨n, hn⟩ := swap_done (s := { s with userBankWindow := false }) (rd := rd) (rm := rm) result ha hread hwrite
    rw [hexec, hn]
    refine ⟨fun hsame htop => ?_, fun hchanged => if_pos hchanged⟩
    rw [if_neg (by rw [Bool.not_eq_true]; exact hsame)]
    obtain ⟨u, hu⟩ : ∃ u, u = ({ s with userBankWindow := false, draws := n, mem := m } : State) := ⟨_, rfl⟩
    have hframe : Frame s u [] := by rw [hu]; exact frame_of_banks rfl rfl rfl rfl rfl
    have hmode : u.mode = s.mode := by rw [hu]; rfl
    obtain ⟨t, hnext, hregs, hpc, hcpsr, hft, ⟨hreplies, hsent⟩, hmem⟩ :=
      finish_completes (frame_setReg hframe hmode rd (result (s.dataValue a.toNat w)))
        ((State.setReg_pc u hrd _).trans (by rw [hu])) htop
    have htm : t.mem = m := by rw [hmem]; simp [hu]
    refine ⟨t, by rw [← hnext, hu]; rfl, ?_, htm, fun b hb => ?_, hpc, by simp [hcpsr, hu], hft, by simp [hreplies, hu], by simp [hsent, hu]⟩
    · rw [hregs _ (s.phys_ne_pc hrd), State.getPhys_setReg_same hmode, hresult]
    · rw [htm]; exact Memory.read_writeBytes_other _ _ hb
  case aborted =>
    obtain ⟨n, hn⟩ := swap_aborted (s := { s with userBankWindow := false }) (rd := rd) (rm := rm) result ha habort
    exact ⟨_, hexec.trans hn, dataAbort_entered rfl rfl rfl rfl rfl, ⟨by simp, by simp⟩, by simp,
      fun q hq hlr => (dataAbort_getPhys _ hq hlr).trans (State.getPhys_of_banks rfl hq)⟩

/-- Settles O36. -/
theorem mrsReadsTheStatus : Obligations.MrsReadsTheStatus := by
  intro c spsr rd s h
  obtain ⟨-, -, -, hrd⟩ := Restrict.mrs_eq_none.1 h.2.2.1
  have hexec : exec (.mrs c spsr 15 rd 0 0) s =
      match readPsr spsr s with
      | none => refuse .noSpsr
      | some p => finish (State.setReg { s with userBankWindow := false } rd p) := guarded_ready h _
  refine ⟨fun p hp htop => ?reads, fun hspsr hno => ?noSpsr⟩
  case reads =>
    obtain ⟨t, hnext, hreg, hpc, hcpsr, hrest⟩ := finish_setReg (n := s.draws) p hrd htop rfl
    refine ⟨t, ?_, hreg, hpc, hcpsr, hrest⟩
    rw [hexec, show readPsr spsr s = some p from hp]
    exact hnext
  case noSpsr => rw [hexec, show readPsr spsr s = none by rw [readPsr, if_pos hspsr, hno]]; rfl

/-- Both forms of MSR are `writePsr` on their operand. -/
theorem exec_msr {c : Cond} {spsr : Bool} {fields : BitVec 4} {i : Instr} {operand : Word} {s : State}
    (hi : (∃ rm, i = .msrReg c spsr fields 15 0 rm ∧ operand = s.reg rm) ∨
      ∃ rot imm, i = .msrImm c spsr fields 15 rot imm ∧ operand = (imm.setWidth 32 : Word).rotateRight (2 * rot.toNat))
    (h : Ready i s) : exec i s = writePsr spsr fields operand { s with userBankWindow := false } := by
  rcases hi with ⟨rm, rfl, rfl⟩ | ⟨rot, imm, rfl, rfl⟩
  · exact guarded_ready h _
  · rw [← rotatedImmediate_eq_rotateRight]; exact guarded_ready h _

/-- Settles O37: the mask selects the bytes of R338, so T and the mode field change with byte 0 alone. -/
theorem msrWritesTheCpsr : Obligations.MsrWritesTheCpsr := by
  intro c fields i operand s hi h htop writes
  rw [(exec_msr hi h).trans (writeCpsr_eq fields operand s)]
  have hT : psrT (cpsrAfterMsr fields operand s) = if writes 0 then psrT operand else psrT s.cpsr := psrT_cpsrAfterMsr
  have hM : psrMode (cpsrAfterMsr fields operand s) = if writes 0 then psrMode operand else psrMode s.cpsr := psrMode_cpsrAfterMsr
  refine ⟨fun hw hne => ?changesT, fun hw heq hnone => ?noMode, fun hok => ?writes⟩
  case changesT =>
    rw [if_pos hw] at hT
    exact if_pos (by rw [hT]; simpa [psrT] using hne)
  case noMode =>
    rw [if_pos hw] at hT hM
    refine (if_neg (by rw [hT]; simpa [psrT] using heq)).trans (if_pos ?_)
    rw [Bool.and_eq_true]
    exact ⟨hw, by simpa [hM] using hnone⟩
  case writes =>
    have hTsame : (psrT (cpsrAfterMsr fields operand s) != psrT s.cpsr) = false := by
      rw [hT]
      cases hw : writes 0
      case false => simp
      case true => simpa [psrT] using (hok hw).1
    have hMode : (writes 0 && (Mode.ofBits (psrMode (cpsrAfterMsr fields operand s))).isNone) = false := by
      rw [hM]
      cases hw : writes 0
      case false => rfl
      case true => simpa [Option.isSome_iff_ne_none] using (hok hw).2
    obtain ⟨t, hnext, hpc, hcpsr, hrest⟩ := finish_status (p := cpsrAfterMsr fields operand s) (n := s.draws) htop
    refine ⟨t, ?_, fun k hk => by rw [hcpsr]; exact cpsrAfterMsr_byte fields operand s hk, hpc, hrest⟩
    rw [hTsame, show cpsrBytes fields s 0 = writes 0 from rfl, hMode]
    exact hnext

/-- Settles O38. -/
theorem msrWritesTheSpsr : Obligations.MsrWritesTheSpsr := by
  intro c fields i operand s hi h
  have hexec : exec i s = writeSpsr fields operand { s with userBankWindow := false } := exec_msr hi h
  refine ⟨fun hno => hexec.trans (writeSpsr_none (s := { s with userBankWindow := false }) hno ..), fun p hp htop => ?_⟩
  obtain ⟨v, hv⟩ : ∃ v, v = maskedWrite p (fieldBits fields) operand := ⟨_, rfl⟩
  have hnext := hexec.trans (writeSpsr_some (s := { s with userBankWindow := false }) hp ..)
  rw [← hv, finish_eq (by simpa using htop), State.setSpsr_pc] at hnext
  refine ⟨_, v, hnext, ?hasIt, fun k hk => ?bytes, ?rest, fun m hm => ?others⟩
  case hasIt => exact State.currentSpsr_setSpsr (s := { s with userBankWindow := false }) hp v
  case bytes => rw [hv]; exact maskedWrite_byte (fun i hi => fieldBits_getLsbD fields i hi) hk
  case rest => unfold State.setSpsr; split <;> rfl
  case others =>
    obtain ⟨m', hm'⟩ : ∃ m', s.mode = some m' := by
      cases hmode : s.mode with
      | none => simp [State.currentSpsr, hmode] at hp
      | some m' => exact ⟨m', rfl⟩
    have hbits : psrMode (m.bits.setWidth 32) = m.bits := by cases m <;> rfl
    rw [show State.mode { s with userBankWindow := false } = some m' from hm']
    exact State.setSpsr_other { s with userBankWindow := false } v _ hbits fun h => hm (by rw [hm', h])

end Sys2Proof.Proofs

/-! ## The branches, SWI and BKPT (R161 to R166, R180, R182) -/

namespace Sys2Proof.Machine

open Sys2Proof.Claims

/-- The target in exact integers, narrowed at the end (R161). -/
theorem branchTarget_eq (pc : Word) (imm : BitVec 24) :
    branchTarget pc imm = BitVec.ofInt 32 ((pc.toNat : Int) + 8 + 4 * imm.toInt) := by
  have hshift : (imm.signExtend 32 : Word) <<< 2 = BitVec.ofInt 32 (4 * imm.toInt) := by
    rw [BitVec.shiftLeft_eq_mul_twoPow, BitVec.ofInt_mul, BitVec.mul_comm]; rfl
  rw [branchTarget, hshift, BitVec.ofInt_add, BitVec.ofInt_add, ofInt_toNat]; rfl

/-! ### The T bit -/

theorem psrT_psrWithT (p : Word) (t : Bool) : psrT (psrWithT p t) = t := by
  simp only [psrT, psrWithT, bit, BitVec.getLsbD_append]; simp

/-- Putting T back gives the old status word. -/
theorem psrWithT_psrWithT_self (p : Word) (t : Bool) : psrWithT (psrWithT p t) (psrT p) = p := by
  apply BitVec.eq_of_getLsbD_eq; intro i hi
  simp only [psrT, psrWithT, bit, BitVec.getLsbD_append, BitVec.getLsbD_extractLsb']
  interval_cases i <;> simp

@[simp] theorem psrMode_psrWithT (p : Word) (t : Bool) : psrMode (psrWithT p t) = psrMode p := by
  apply BitVec.eq_of_getLsbD_eq; intro i hi
  simp only [psrMode, psrWithT, bit, BitVec.getLsbD_append, BitVec.getLsbD_extractLsb']
  interval_cases i <;> simp

/-- On a processor with Thumb support T takes any value. -/
theorem State.setT_of_hasThumb {s : State} (h : s.cfg.hasThumb = true) (t : Bool) :
    s.setT t = { s with cpsr := psrWithT s.cpsr t } := by simp [State.setT, State.cpsrFrom, h]

/-! ### The link register -/

theorem r14_ne_r15 : (14 : RegNo) ≠ 15 := by decide

theorem State.getPhys_pc_cpsr (s : State) {q : PhysReg} (hq : q ≠ .pc) (pc p : Word) :
    State.getPhys { s with pc := pc, cpsr := p } q = s.getPhys q :=
  State.getPhys_of_banks (s := s) (t := { s with pc := pc, cpsr := p }) rfl hq

/-- The link left in r14 by an instruction that then only moves the pc and writes T. -/
theorem linked_keeps (s : State) (v pc p : Word) :
    let t : State := { State.setReg { s with userBankWindow := false } 14 v with pc := pc, cpsr := p }
    t.getPhys (s.phys 14) = v ∧ Frame s t [s.phys 14] ∧ NoCoprocessor s t ∧ SameMemory s t := by
  have hframe := frame_setReg (t := { s with userBankWindow := false }) (frame_of_banks rfl rfl rfl rfl rfl) rfl 14 v
  refine ⟨?_, frame_congr hframe rfl rfl rfl rfl rfl, ⟨?_, ?_⟩, fun a => ?_⟩
  · exact (State.getPhys_pc_cpsr _ (s.phys_ne_pc r14_ne_r15) pc p).trans
      (State.getPhys_setReg_same (u := { s with userBankWindow := false }) rfl 14 v)
  · simp
  · simp
  · simp

end Sys2Proof.Machine

namespace Sys2Proof.Proofs

open Sys2Proof.Machine Sys2Proof.Claims

/-- Settles O39. -/
theorem branchesGoToTheTarget : Obligations.BranchesGoToTheTarget := by
  intro c imm s target
  have htarget : branchTarget s.pc imm = target := branchTarget_eq s.pc imm
  refine ⟨fun h => ?b, fun h => ?bl⟩
  case b =>
    exact ⟨_, guarded_ready h _, htarget, rfl, frame_of_banks rfl rfl rfl rfl rfl, ⟨rfl, rfl⟩, fun _ => rfl⟩
  case bl =>
    obtain ⟨hlink, hrest⟩ := linked_keeps s (s.pc + 4) (branchTarget s.pc imm) (State.setReg { s with userBankWindow := false } 14 (s.pc + 4)).cpsr
    exact ⟨_, guarded_ready h _, htarget, hlink, by simp, hrest⟩

/-- Settles O40: on a processor with Thumb support `branchExchange` writes T and the pc. -/
theorem branchesExchangeState : Obligations.BranchesExchangeState := by
  intro c rm s hthumb v
  have hbx : Ready (.bx c 0xFFF rm) s →
      exec (.bx c 0xFFF rm) s = branchExchange v { s with userBankWindow := false } := fun h => guarded_ready h _
  have hblx : Ready (.blxReg c 0xFFF rm) s → exec (.blxReg c 0xFFF rm) s =
      branchExchange v (State.setReg { s with userBankWindow := false } 14 (s.pc + 4)) := fun h => guarded_ready h _
  refine ⟨fun h hv => ?bx, fun h hv => ?blx, fun hv => ⟨fun h => ?bxRefused, fun h => ?blxRefused⟩, fun hbit imm h => ?blxImm⟩
  case bx =>
    have hnext := (hbx h).trans (branchExchange_next.2 ⟨hv, rfl⟩)
    rw [State.setT_of_hasThumb (by exact hthumb)] at hnext
    exact ⟨_, hnext, and_clear_one v, psrT_psrWithT .., psrWithT_psrWithT_self .., frame_of_banks rfl rfl rfl rfl rfl, ⟨rfl, rfl⟩,
      fun _ => rfl⟩
  case blx =>
    have hnext := (hblx h).trans (branchExchange_next.2 ⟨hv, rfl⟩)
    rw [State.setT_of_hasThumb (by simpa using hthumb), State.setReg_cpsr] at hnext
    exact ⟨_, hnext, and_clear_one v, psrT_psrWithT .., psrWithT_psrWithT_self .., linked_keeps s (s.pc + 4) _ _⟩
  case bxRefused => rw [hbx h, branchExchange, if_pos hv]; rfl
  case blxRefused => rw [hblx h, branchExchange, if_pos hv]; rfl
  case blxImm =>
    have hnext : exec (.blxImm hbit imm) s = _ := guarded_ready h _
    rw [State.setT_of_hasThumb (by simpa using hthumb), State.setReg_cpsr] at hnext
    refine ⟨_, hnext, ?_, psrT_psrWithT .., psrWithT_psrWithT_self .., linked_keeps s (s.pc + 4) _ _⟩
    show branchTarget s.pc imm + _ = _
    rw [branchTarget_eq, BitVec.ofInt_add _ (if hbit = true then 2 else 0)]
    cases hbit <;> rfl

/-- Settles O41: the two are `takeException` of their exception. -/
theorem swiAndBreakpointEnter : Obligations.SwiAndBreakpointEnter := by
  intro c imm immH immL s high
  have hothers : ∀ e, ∀ q, q ≠ .pc → q ≠ bank (some e.mode) 14 →
      (takeException e { s with userBankWindow := false }).getPhys q = s.getPhys q := fun e q hq hlr =>
    (enterException_other e _ _ _ hq hlr).trans (State.getPhys_of_banks rfl hq)
  refine ⟨fun h => ?swi, fun h => ?bkpt⟩
  case swi =>
    exact ⟨_, guarded_ready h _, enterException_link .softwareInterrupt .., rfl, rfl,
      (State.vector_eq s .softwareInterrupt).trans (add_comm _ _), by simp, hothers .softwareInterrupt, rfl⟩
  case bkpt =>
    exact ⟨_, guarded_ready h _, enterException_link .prefetchAbort .., rfl,
      (State.vector_eq s .prefetchAbort).trans (add_comm _ _), by simp, hothers .prefetchAbort, rfl⟩

end Sys2Proof.Proofs

/-! ## The word and byte transfers (R260 to R277) -/

namespace Sys2Proof.Machine

open Sys2Proof.Claims

/-! ### The ends of a transfer -/

theorem State.phys_ne (s : State) {r r' : RegNo} (h : r ≠ r') : s.phys r ≠ s.phys r' := fun he => h (bank_injective _ he)

theorem loadWrites_eq (s : State) (tr : Transfer) (rn rd : RegNo) :
    loadWrites s tr rn rd = s.phys rd :: storeWrites s tr rn := by
  unfold loadWrites storeWrites
  split <;> rfl

section Ends

variable {s : State} {tr : Transfer} {rn : RegNo}

/-- A load that fills a register below r15. -/
theorem load_completes {rd : RegNo} (v : Word) (n : Nat) (hrn : tr.writeback = true → rn ≠ 15 ∧ rd ≠ rn) (hrd : rd ≠ 15)
    (htop : s.pc.toNat < 0xFFFFFFFC) :
    ∃ t, finish ((writeBack tr rn { s with userBankWindow := false, draws := n }).setReg rd v) = .next t ∧
      t.getPhys (s.phys rd) = v ∧ BaseAfter s t tr rn ∧ t.pc = s.pc + 4 ∧ t.cpsr = s.cpsr ∧ Frame s t (loadWrites s tr rn rd) ∧
      NoCoprocessor s t ∧ SameMemory s t := by
  obtain ⟨u, hu⟩ : ∃ u, u = ({ s with userBankWindow := false, draws := n } : State) := ⟨_, rfl⟩
  have hcore : SameCore s u := by rw [hu]; exact ⟨rfl, rfl, rfl, rfl, rfl, rfl⟩
  obtain ⟨hframe, hmode, hpc, hbase⟩ := writeBack_keeps hcore (by rw [hu]) fun hw => (hrn hw).1
  obtain ⟨t, hnext, hregs, hpc', hcpsr, hft, ⟨hreplies, hsent⟩, hmem⟩ :=
    finish_completes (frame_setReg hframe hmode rd v) ((State.setReg_pc _ hrd v).trans hpc) htop
  rw [← hu]
  refine ⟨t, hnext, (hregs _ (s.phys_ne_pc hrd)).trans (State.getPhys_setReg_same hmode rd v), fun hw => ?_, hpc',
    by simp [hcpsr, hu], by rwa [loadWrites_eq], ⟨by simp [hreplies, hu], by simp [hsent, hu]⟩, fun a => by simp [hmem, hu]⟩
  obtain ⟨hrn15, hne⟩ := hrn hw
  rw [hregs _ (s.phys_ne_pc hrn15), State.getPhys_setReg_other hmode (s.phys_ne hne.symm), hbase hw]

/-- A store that has written memory. -/
theorem store_completes (m : Memory) (hrn : tr.writeback = true → rn ≠ 15) (htop : s.pc.toNat < 0xFFFFFFFC) :
    ∃ t, finish (writeBack tr rn { s with userBankWindow := false, mem := m }) = .next t ∧ t.mem = m ∧ BaseAfter s t tr rn ∧
      t.pc = s.pc + 4 ∧ t.cpsr = s.cpsr ∧ Frame s t (storeWrites s tr rn) ∧ NoCoprocessor s t := by
  obtain ⟨u, hu⟩ : ∃ u, u = ({ s with userBankWindow := false, mem := m } : State) := ⟨_, rfl⟩
  have hcore : SameCore s u := by rw [hu]; exact ⟨rfl, rfl, rfl, rfl, rfl, rfl⟩
  obtain ⟨hframe, hmode, hpc, hbase⟩ := writeBack_keeps hcore (by rw [hu]) hrn
  obtain ⟨t, hnext, hregs, hpc', hcpsr, hft, ⟨hreplies, hsent⟩, hmem⟩ := finish_completes hframe hpc htop
  rw [← hu]
  exact ⟨t, hnext, by simp [hmem, hu], fun hw => (hregs _ (s.phys_ne_pc (hrn hw))).trans (hbase hw), hpc', by simp [hcpsr, hu], hft,
    by simp [hreplies, hu], by simp [hsent, hu]⟩

/-- A loaded word in the pc (R268, R312): nothing else but T changes. -/
theorem loadPc_completes {u : State} {written : List PhysReg} (v : Word) (hframe : Frame s u written) (hcpsr : u.cpsr = s.cpsr)
    (hthumb : s.cfg.archV5T = true → s.cfg.hasThumb = true) :
    (∀ q, q ≠ .pc → (loadPc v u).getPhys q = u.getPhys q) ∧
      (s.cfg.archV5T = false → (loadPc v u).pc = v.extractLsb' 2 30 ++ 0b00#2 ∧ (loadPc v u).cpsr = s.cpsr) ∧
      (s.cfg.archV5T = true →
        (loadPc v u).pc = v.extractLsb' 1 31 ++ 0b0#1 ∧ (loadPc v u).cpsr = psrWithT s.cpsr (v.getLsbD 0)) ∧
      Frame s (loadPc v u) written ∧ NoCoprocessor u (loadPc v u) ∧ (loadPc v u).mem = u.mem := by
  have hcfg : u.cfg = s.cfg := hframe.1
  cases hv5 : s.cfg.archV5T
  case false =>
    rw [loadPc_v4t v (by rw [hcfg, hv5])]
    exact ⟨fun q hq => u.getPhys_pc hq _, fun _ => ⟨and_clear_two v, hcpsr⟩, nofun, frame_congr hframe rfl rfl rfl rfl rfl, ⟨rfl, rfl⟩, rfl⟩
  case true =>
    rw [loadPc_v5t v (by rw [hcfg, hv5]), State.setT_of_hasThumb (by rw [hcfg]; exact hthumb hv5), hcpsr]
    exact ⟨fun q hq => u.getPhys_pc_cpsr hq _ _, nofun, fun _ => ⟨and_clear_one v, rfl⟩, frame_congr hframe rfl rfl rfl rfl rfl,
      ⟨rfl, rfl⟩, rfl⟩

end Ends

/-- The value a store takes from a register: r15 as the pc plus 8 or 12 (R269). -/
theorem State.storedReg_eq (s : State) (m : Option Mode) (r : RegNo) :
    s.storedReg m r = if r = 15 then s.pc + (if s.cfg.pcStoreOffset = .eight then 8 else 12) else s.getPhys (bank m r) := by
  unfold State.storedReg
  cases s.cfg.pcStoreOffset <;> rfl

/-- The value a store takes from a register of the current mode. -/
theorem State.storedReg_current (s : State) (r : RegNo) :
    s.storedReg s.mode r = if r = 15 then s.pc + (if s.cfg.pcStoreOffset = .eight then 8 else 12) else s.reg r := by
  rw [State.storedReg_eq]
  exact ite_congr rfl (fun _ => rfl) fun h => (if_neg h).symm

/-! ### The family -/

/-- The operations on a transfer. -/
def SingleOp.body (op : SingleOp) (priv : Bool) (tr : Transfer) (rn rd : RegNo) (s : State) : Result :=
  match op with
  | .ldr => loadWord priv tr rn rd s
  | .str => storeWord priv tr rn rd s
  | .ldrb => loadByte priv tr rn rd s
  | .strb => storeByte priv tr rn rd s

section Single

variable {op : SingleOp} {form : SingleForm} {off : SingleOffset} {c : Cond} {u : Bool} {rn rd : RegNo} {s : State}

theorem exec_single (h : Ready (op.instr form off c u rn rd) s) :
    exec (op.instr form off c u rn rd) s =
      SingleOp.body op (form.priv s) (form.transfer off u rn s) rn rd { s with userBankWindow := false } := by
  cases op <;> cases form <;> cases off <;> exact guarded_ready h _

theorem single_address (cfg : Config) (op : SingleOp) (a : Word) :
    accessAddress cfg op.width a = some (if op.width = .word then wordAddress a else a) := by cases op <;> rfl

theorem SingleForm.transfer_writeback (h : form = .offset false) : (form.transfer off u rn s).writeback = false := by
  subst h; rfl

/-- The base that is written back is not r15 and not the register of the transfer (R267). -/
theorem single_writeback (h : restriction (op.instr form off c u rn rd) = none) (hw : (form.transfer off u rn s).writeback = true) :
    rn ≠ 15 ∧ rd ≠ rn := by
  have hform : form ≠ .offset false := fun hf => by simp [SingleForm.transfer_writeback hf] at hw
  cases off with
  | imm v => exact ((Proofs.restrictionsOfTransfers.1 op form v c u rn rd).1 h).1.resolve_left hform
  | reg amount kind rm =>
    obtain ⟨hclash, -⟩ := (Proofs.restrictionsOfTransfers.2.1 op form amount kind rm c u rn rd).1 h
    obtain ⟨h15, hne, -⟩ := hclash.resolve_left hform
    exact ⟨h15, hne⟩

/-- The byte transfers do not name r15 (R267). -/
theorem single_byte_register (h : restriction (op.instr form off c u rn rd) = none) (hw : op.width = .byte) : rd ≠ 15 := by
  cases off with
  | imm v => exact ((Proofs.restrictionsOfTransfers.1 op form v c u rn rd).1 h).2 (.inl hw)
  | reg amount kind rm => exact ((Proofs.restrictionsOfTransfers.2.1 op form amount kind rm c u rn rd).1 h).2.1 (.inl hw)

end Single

end Sys2Proof.Machine

namespace Sys2Proof.Proofs

open Sys2Proof.Machine Sys2Proof.Claims

/-- Settles O42: LDR and LDRB differ in the address and in what they make of the value. -/
theorem loadsFillTheRegister : Obligations.LoadsFillTheRegister := by
  intro op form off c u rn rd s hop i tr a h hrd htop habort
  have hrn := fun hw => single_writeback (s := s) h.2.2.1 hw
  have hexec : exec i s = _ := exec_single h
  rcases hop with rfl | rfl
  case inl =>
    obtain ⟨n, hn⟩ := loadThen_done (s := { s with userBankWindow := false }) (tr := tr) (accessAddress_word ..) rfl habort rn
      fun v s => if rd = 15 then (if loadPcStop s.cfg.archV5T tr.address v then refuse .loadPcBits else .next (loadPc v s))
        else finish (s.setReg rd (rotatedLoad tr.address v))
    rw [if_neg hrd] at hn
    obtain ⟨t, hnext, hreg, hrest⟩ := load_completes (rotatedLoad tr.address (s.dataValue a.toNat .word)) n hrn hrd htop
    exact ⟨t, (hexec.trans hn).trans hnext, hreg.trans (rotatedLoad_eq ..), hrest⟩
  case inr =>
    obtain ⟨n, hn⟩ := loadThen_done (s := { s with userBankWindow := false }) (tr := tr) (accessAddress_byte ..) rfl habort rn
      fun v s => finish (s.setReg rd v)
    obtain ⟨t, hnext, hreg, hrest⟩ := load_completes (s.dataValue a.toNat .byte) n hrn hrd htop
    exact ⟨t, (hexec.trans hn).trans hnext, hreg, hrest⟩

/-- Settles O43. -/
theorem loadsIntoThePcBranch : Obligations.LoadsIntoThePcBranch := by
  intro form off c u rn s i tr v h hthumb habort
  have hrn := fun hw => (single_writeback (s := s) h.2.2.1 hw).1
  obtain ⟨n, hn⟩ := loadThen_done (s := { s with userBankWindow := false }) (tr := tr) (accessAddress_word ..) rfl habort rn
    fun v s => if loadPcStop s.cfg.archV5T tr.address v then refuse .loadPcBits else .next (loadPc v s)
  obtain ⟨s1, hs1⟩ : ∃ s1, s1 = ({ s with userBankWindow := false, draws := n } : State) := ⟨_, rfl⟩
  have hcore : SameCore s s1 := by rw [hs1]; exact ⟨rfl, rfl, rfl, rfl, rfl, rfl⟩
  obtain ⟨hframe, hmode, -, hbase⟩ := writeBack_keeps hcore (by rw [hs1]) hrn
  have hexec : exec i s = if loadPcStop s.cfg.archV5T tr.address v then refuse .loadPcBits else .next (loadPc v (writeBack tr rn s1)) := by
    rw [hs1]
    refine (exec_single h).trans (hn.trans ?_)
    rw [writeBack_cfg]; rfl
  refine ⟨fun hmis => ?misaligned, fun hal hv5 hbits => ?bits, fun hal hbits => ?branch⟩
  case misaligned => exact hexec.trans (if_pos (by simp [loadPcStop, hmis]))
  case bits => exact hexec.trans (if_pos (by simp [loadPcStop, hv5, hbits]))
  case branch =>
    have hgo : loadPcStop s.cfg.archV5T tr.address v = false := by
      simp only [loadPcStop, hal, bne_self_eq_false, Bool.false_or, Bool.and_eq_false_imp, beq_eq_false_iff_ne]
      exact hbits
    obtain ⟨hregs, hv4, hv5, hft, ⟨hreplies, hsent⟩, hmem⟩ := loadPc_completes v hframe (by simp [hs1]) hthumb
    exact ⟨_, hexec.trans (if_neg (by simp [hgo])), fun hw => (hregs _ (s.phys_ne_pc (hrn hw))).trans (hbase hw), hv4, hv5, hft,
      ⟨hreplies.trans (by simp [hs1]), hsent.trans (by simp [hs1])⟩, fun b => congrArg (Memory.read · b) (hmem.trans (by simp [hs1]))⟩

/-- Settles O44. -/
theorem storesFillMemory : Obligations.StoresFillMemory := by
  intro op form off c u rn rd s hop i tr a v m h habort
  have hrn := fun hw => (single_writeback (s := s) h.2.2.1 hw).1
  have hexec : exec i s = if pipelineChanged s.pc s.mem m then refuse .storeIntoPipeline
      else finish (writeBack tr rn { s with userBankWindow := false, mem := m }) := by
    refine (exec_single h).trans ?_
    rcases hop with rfl | rfl
    case inl =>
      rw [SingleOp.body, storeWord, State.storedReg_window, State.mode_window, State.storedReg_current]
      exact storeThen_done (s := { s with userBankWindow := false }) (accessAddress_word ..) rfl habort rn v
    case inr =>
      have hv : v = s.reg rd := if_neg (single_byte_register h.2.2.1 rfl)
      rw [SingleOp.body, storeByte, State.reg_window, ← hv]
      exact storeThen_done (s := { s with userBankWindow := false }) (accessAddress_byte ..) rfl habort rn v
  refine ⟨fun hchanged => hexec.trans (if_pos hchanged), fun hsame htop => ?_⟩
  obtain ⟨t, hnext, htm, hrest⟩ := store_completes m hrn htop
  refine ⟨t, (hexec.trans (if_neg (by simp [hsame]))).trans hnext, htm, fun b hb => ?_, hrest⟩
  rw [htm]; exact Memory.read_writeBytes_other _ _ hb

/-- Settles O45: whichever access aborts, `abortBase` is all that is done before the exception. -/
theorem singleTransferAborts : Obligations.SingleTransferAborts := by
  intro op form off c u rn rd s i tr a kind h habort
  have hexec : exec i s = .next (takeException .dataAbort (abortBase tr rn { s with userBankWindow := false })) := by
    refine (exec_single h).trans ?_
    have ha := single_address s.cfg op tr.address
    cases op
    case ldr => rw [SingleOp.body, loadWord]; exact loadThen_aborted (s := { s with userBankWindow := false }) (w := .word) ha rfl habort rn _
    case ldrb => rw [SingleOp.body, loadByte]; exact loadThen_aborted (s := { s with userBankWindow := false }) (w := .byte) ha rfl habort rn _
    case str => rw [SingleOp.body, storeWord]; exact storeThen_aborted (s := { s with userBankWindow := false }) (w := .word) ha rfl habort rn _
    case strb => rw [SingleOp.body, storeByte]; exact storeThen_aborted (s := { s with userBankWindow := false }) (w := .byte) ha rfl habort rn _
  obtain ⟨hentered, hregs, hbase⟩ := abortBase_aborts (sameCore_window s false) fun hw => (single_writeback (s := s) h.2.2.1 hw).1
  exact ⟨_, hexec, hentered, ⟨by simp, by simp⟩, by simp, hregs, hbase⟩

end Sys2Proof.Proofs

/-! ## The halfword and signed transfers (R290 to R299) -/

namespace Sys2Proof.Machine

open Sys2Proof.Claims

/-! ### Halfword addresses (R67) -/

theorem accessAddress_half_even (cfg : Config) {a : Word} (h : a.getLsbD 0 = false) : accessAddress cfg .half a = some a := by
  simp [accessAddress, -BitVec.getLsbD_eq_getElem, h]

theorem accessAddress_half_ignored {cfg : Config} {a : Word} (h : a.getLsbD 0 = true) (hc : cfg.halfwordMisaligned = .ignoreBit0) :
    accessAddress cfg .half a = some (a.extractLsb' 1 31 ++ 0b0#1) := by
  simp only [accessAddress, h, if_true, hc, and_clear_one]

theorem accessAddress_half_refused {cfg : Config} {a : Word} (h : a.getLsbD 0 = true) (hc : cfg.halfwordMisaligned = .refuse) :
    accessAddress cfg .half a = none := by
  simp only [accessAddress, h, if_true, hc]

section NoAddress

variable {s : State} {w : Width} {priv : Bool} {tr : Transfer} (h : accessAddress s.cfg w tr.address = none)

include h

theorem loadThen_refused (rn : RegNo) (k : Word → State → Result) : loadThen w priv tr rn s k = refuse .oddHalfword := by
  rw [loadThen, memRead_unpredictable.2 ⟨h, rfl⟩]

theorem storeThen_refused (rn : RegNo) (v : Word) : storeThen w priv tr rn v s = refuse .oddHalfword := by
  rw [storeThen, memWrite, h]

end NoAddress

/-! ### The family -/

/-- What a load makes of the value read. -/
def HalfOp.extend : HalfOp → Word → Word
  | .ldrsb => signExtendByte
  | .ldrsh => signExtendHalf
  | _ => fun v => v

/-- The operations on a transfer. -/
def HalfOp.body (op : HalfOp) (tr : Transfer) (rn rd : RegNo) (s : State) : Result :=
  if op = .strh then storeHalf tr rn rd s else loadExtended op.width (HalfOp.extend op) tr rn rd s

section Half

variable {op : HalfOp} {off : HalfOffset} {c : Cond} {p u w : Bool} {rn rd : RegNo} {s : State}

theorem exec_half (h : Ready (op.instr off c p u w rn rd) s) :
    exec (op.instr off c p u w rn rd) s = HalfOp.body op (off.transfer p u w rn s) rn rd { s with userBankWindow := false } := by
  cases op <;> cases off <;> exact guarded_ready h _

/-- r15 is not transferred; the base that is written back is not r15 and not the register of the transfer (R296). -/
theorem half_registers (h : restriction (op.instr off c p u w rn rd) = none) :
    rd ≠ 15 ∧ ((off.transfer p u w rn s).writeback = true → rn ≠ 15 ∧ rd ≠ rn) := by
  have hnowb : p = true ∧ w = false → (off.transfer p u w rn s).writeback ≠ true := by rintro ⟨rfl, rfl⟩; exact Bool.false_ne_true
  cases off with
  | imm hi lo =>
    obtain ⟨-, hrd, hbase⟩ := (Proofs.restrictionsOfTransfers.2.2.1 op hi lo c p u w rn rd).1 h
    exact ⟨hrd, fun hw => hbase.resolve_left fun hn => hnowb hn hw⟩
  | reg rm =>
    obtain ⟨-, hrd, -, hbase⟩ := (Proofs.restrictionsOfTransfers.2.2.2.1 op rm c p u w rn rd).1 h
    refine ⟨hrd, fun hw => ?_⟩
    obtain ⟨h15, hne, -⟩ := hbase.resolve_left fun hn => hnowb hn hw
    exact ⟨h15, hne⟩

end Half

/-! ### The loaded value, extended (R292, R294, R295) -/

theorem signExtendByte_dataValue (s : State) (a : Nat) :
    signExtendByte (s.dataValue a .byte) = (s.dataByte a).signExtend 32 := by
  simp [signExtendByte, State.dataValue]

theorem signExtendHalf_dataValue (s : State) (a : Nat) :
    signExtendHalf (s.dataValue a .half) = (s.dataByte (a + 1) ++ s.dataByte a).signExtend 32 := by
  simp [signExtendHalf, State.dataValue]

end Sys2Proof.Machine

namespace Sys2Proof.Proofs

open Sys2Proof.Machine Sys2Proof.Claims

/-- Settles O46. -/
theorem halfwordLoadsExtend : Obligations.HalfwordLoadsExtend := by
  intro op off c p u w rn rd s a hop i tr h htop ha habort
  obtain ⟨hrd, hrn⟩ := half_registers (s := s) h.2.2.1
  obtain ⟨n, hn⟩ := loadThen_done (s := { s with userBankWindow := false }) (tr := tr) ha rfl habort rn
    fun v s => finish (s.setReg rd (HalfOp.extend op v))
  obtain ⟨t, hnext, hreg, hrest⟩ := load_completes (HalfOp.extend op (s.dataValue a.toNat op.width)) n hrn hrd htop
  have hexec : exec i s = loadExtended op.width (HalfOp.extend op) tr rn rd { s with userBankWindow := false } := by
    rw [exec_half h, HalfOp.body, if_neg hop]
  rw [State.dataValue_window] at hn
  refine ⟨t, (hexec.trans hn).trans hnext, hreg.trans ?_, hrest⟩
  cases op
  case ldrh => rfl
  case ldrsb => exact signExtendByte_dataValue s a.toNat
  case ldrsh => exact signExtendHalf_dataValue s a.toNat
  case strh => exact absurd rfl hop

/-- Settles O47. -/
theorem halfwordStoresFillMemory : Obligations.HalfwordStoresFillMemory := by
  intro off c p u w rn rd s a i tr m h ha habort
  obtain ⟨hrd, hrn⟩ := half_registers (s := s) h.2.2.1
  have hexec : exec i s = if pipelineChanged s.pc s.mem m then refuse .storeIntoPipeline
      else finish (writeBack tr rn { s with userBankWindow := false, mem := m }) :=
    (exec_half h).trans (storeThen_done (s := { s with userBankWindow := false }) ha rfl habort rn (s.reg rd))
  refine ⟨fun hchanged => hexec.trans (if_pos hchanged), fun hsame htop => ?_⟩
  obtain ⟨t, hnext, htm, hrest⟩ := store_completes m (fun hw => (hrn hw).1) htop
  refine ⟨t, (hexec.trans (if_neg (by simp [hsame]))).trans hnext, htm, fun b hb => ?_, hrest⟩
  rw [htm]; exact Memory.read_writeBytes_other _ _ hb

/-- Settles O48: the address is a matter of the width and of the parameter; whichever access aborts, `abortBase` is all that is done before
the exception. -/
theorem halfwordAddressesAndAborts : Obligations.HalfwordAddressesAndAborts := by
  intro op off c p u w rn rd s i tr kind
  refine ⟨fun heven => ?even, fun hw hodd hc => ?ignored, fun hw hodd hc h => ?refused, fun a h ha habort => ?aborted⟩
  case even =>
    cases op
    case ldrsb => rfl
    case ldrh | ldrsh | strh => exact accessAddress_half_even _ (heven.resolve_left nofun)
  case ignored => rw [hw]; exact accessAddress_half_ignored hodd hc
  case refused =>
    have hno : accessAddress s.cfg op.width tr.address = none := by rw [hw]; exact accessAddress_half_refused hodd hc
    refine (exec_half h).trans ?_
    by_cases hop : op = .strh
    · rw [HalfOp.body, if_pos hop, storeHalf]
      subst hop
      exact storeThen_refused (s := { s with userBankWindow := false }) (w := .half) hno rn _
    · rw [HalfOp.body, if_neg hop, loadExtended]
      exact loadThen_refused (s := { s with userBankWindow := false }) hno rn _
  case aborted =>
    have hexec : exec i s = .next (takeException .dataAbort (abortBase tr rn { s with userBankWindow := false })) := by
      refine (exec_half h).trans ?_
      by_cases hop : op = .strh
      · rw [HalfOp.body, if_pos hop, storeHalf]
        subst hop
        exact storeThen_aborted (s := { s with userBankWindow := false }) (w := .half) ha rfl habort rn _
      · rw [HalfOp.body, if_neg hop, loadExtended]
        exact loadThen_aborted (s := { s with userBankWindow := false }) ha rfl (by rwa [show kind = .read from if_neg hop] at habort) rn _
    obtain ⟨hentered, hregs, hbase⟩ :=
      abortBase_aborts (sameCore_window s false) fun hw => ((half_registers (s := s) h.2.2.1).2 hw).1
    exact ⟨_, hexec, hentered, ⟨by simp, by simp⟩, by simp, hregs, hbase⟩

end Sys2Proof.Proofs

/-! ## Words at consecutive addresses (R310 to R321)

A block transfer goes through the words one by one: the loads up to the first that aborts, the stores through all of them. -/

namespace Sys2Proof.Machine

open Sys2Proof.Claims

/-! ### Addresses -/

@[simp] theorem blockAddress_zero (a : Word) : blockAddress a 0 = a := by simp [blockAddress]

theorem blockAddress_succ (a : Word) (k : Nat) : blockAddress (a + 4) k = blockAddress a (k + 1) := by
  rw [blockAddress, blockAddress, BitVec.add_assoc, show 4 * (k + 1) = 4 + 4 * k by ring, BitVec.ofNat_add]
  rfl

theorem wordAddress_toNat (a : Word) : (wordAddress a).toNat = a.toNat / 4 * 4 := by
  have hlt := a.isLt
  rw [wordAddress, and_clear_two, BitVec.toNat_append, BitVec.extractLsb'_toNat, Nat.shiftLeft_eq, Nat.shiftRight_eq_div_pow]
  simp; omega

/-- The aligned addresses of a block are the aligned start plus four bytes a word, modulo 2^32. -/
theorem wordAddress_blockAddress_toNat (a : Word) (k : Nat) :
    (wordAddress (blockAddress a k)).toNat = (a.toNat / 4 * 4 + 4 * k) % 2 ^ 32 := by
  have hlt := a.isLt
  rw [wordAddress_toNat, blockAddress, BitVec.toNat_add, BitVec.toNat_ofNat]
  omega

/-- The words of a block of at most 2^30 words do not overlap. -/
theorem blockAddress_disjoint (a : Word) {j k : Nat} (hj : j < 2 ^ 30) (hk : k < 2 ^ 30) (h : j ≠ k) :
    (wordAddress (blockAddress a j)).toNat + 4 ≤ (wordAddress (blockAddress a k)).toNat ∨
      (wordAddress (blockAddress a k)).toNat + 4 ≤ (wordAddress (blockAddress a j)).toNat := by
  rw [wordAddress_blockAddress_toNat, wordAddress_blockAddress_toNat]
  omega

/-- Two different aligned words do not overlap. -/
theorem wordAddress_disjoint {a b : Word} (h : wordAddress a ≠ wordAddress b) :
    (wordAddress a).toNat + 4 ≤ (wordAddress b).toNat ∨ (wordAddress b).toNat + 4 ≤ (wordAddress a).toNat := by
  have hne : (wordAddress a).toNat ≠ (wordAddress b).toNat := fun he => h (BitVec.eq_of_toNat_eq he)
  rw [wordAddress_toNat, wordAddress_toNat] at *
  omega

theorem wordAddress_fits (a : Word) : (wordAddress a).toNat + 4 ≤ 2 ^ 32 := accessAddress_fits (accessAddress_word Config.standard a)

/-! ### The words a load finds -/

theorem readWord_congr {m m' : Memory} {a : Nat} (h : ∀ i < 4, m'.read (a + i) = m.read (a + i)) : m'.readWord a = m.readWord a := by
  simp only [Memory.readWord]
  rw [show m'.read a = m.read a from h 0 (by decide), h 1 (by decide), h 2 (by decide), h 3 (by decide)]

/-- Outside device space a word read is memory's. -/
theorem dataValue_of_plainWord {s : State} {a : Word} (h : plainWord s a) :
    s.dataValue (wordAddress a).toNat .word = s.mem.readWord (wordAddress a).toNat := by
  have hbyte := fun k hk => State.dataByte_of_plain (touchesDevice_eq_false.1 h k hk)
  rw [State.dataValue, Memory.readWord, show s.dataByte (wordAddress a).toNat = _ from hbyte 0 (by decide),
    hbyte 1 (by decide), hbyte 2 (by decide), hbyte 3 (by decide)]
  rfl

theorem blockValue_dataValue (s : State) (a : Word) (k : Nat) :
    BlockValue s a k (s.dataValue (wordAddress (blockAddress a k)).toNat .word) := dataValue_of_plainWord

/-! ### What the loads of a block leave alone -/

/-- Everything but the general registers below r15 and the count of free values is the same. -/
structure OnlyRegisters (s t : State) : Prop where
  cfg : t.cfg = s.cfg
  pc : t.pc = s.pc
  cpsr : t.cpsr = s.cpsr
  spsr : t.spsr = s.spsr
  mem : t.mem = s.mem
  lines : t.lines = s.lines
  window : t.userBankWindow = s.userBankWindow
  replies : t.cpReplies = s.cpReplies
  sent : t.cpSent = s.cpSent

theorem OnlyRegisters.refl (s : State) : OnlyRegisters s s := ⟨rfl, rfl, rfl, rfl, rfl, rfl, rfl, rfl, rfl⟩

theorem OnlyRegisters.trans {s t u : State} (h : OnlyRegisters s t) (h' : OnlyRegisters t u) : OnlyRegisters s u :=
  ⟨h'.cfg.trans h.cfg, h'.pc.trans h.pc, h'.cpsr.trans h.cpsr, h'.spsr.trans h.spsr, h'.mem.trans h.mem, h'.lines.trans h.lines,
    h'.window.trans h.window, h'.replies.trans h.replies, h'.sent.trans h.sent⟩

theorem OnlyRegisters.mode {s t : State} (h : OnlyRegisters s t) : t.mode = s.mode := by rw [State.mode, h.cpsr, State.mode]

theorem OnlyRegisters.privileged {s t : State} (h : OnlyRegisters s t) : t.privileged = s.privileged := by
  rw [State.privileged, h.cpsr, State.privileged]

theorem onlyRegisters_draws (s : State) (n : Nat) : OnlyRegisters s { s with draws := n } :=
  ⟨rfl, rfl, rfl, rfl, rfl, rfl, rfl, rfl, rfl⟩

theorem onlyRegisters_setPhys (s : State) {q : PhysReg} (hq : q ≠ .pc) (v : Word) : OnlyRegisters s (s.setPhys q v) :=
  ⟨by simp, s.setPhys_pc hq v, by simp, by simp, by simp, by simp, by simp, by simp, by simp⟩

/-- What aborts after the first word is what aborted before. -/
theorem noAbort_succ {s t : State} (hcfg : t.cfg = s.cfg) (hpriv : t.privileged = s.privileged) {kind : AccessKind} {a : Word} {n : Nat}
    (hn : noAbort s kind a (n + 1)) : noAbort t kind (a + 4) n := by
  intro k hk
  rw [blockAddress_succ, hcfg, hpriv]
  exact hn (k + 1) (by omega)

theorem blockValue_succ {s t : State} (hcfg : t.cfg = s.cfg) (hmem : t.mem = s.mem) {a v : Word} {k : Nat}
    (hv : BlockValue t (a + 4) k v) : BlockValue s a (k + 1) v := by
  intro hp
  have := hv (by rwa [plainWord, blockAddress_succ, hcfg])
  rwa [blockAddress_succ, hmem] at this

/-! ### The loads of a block -/

section Load

variable {m : Option Mode} {r : RegNo} {regs : List RegNo} {a : Word} {s : State}

/-- The state after one word has been loaded. -/
def loadStep (m : Option Mode) (r : RegNo) (a : Word) (n : Nat) (s : State) : State :=
  State.setPhys { s with draws := n } (bank m r) (s.dataValue (wordAddress a).toNat .word)

theorem loadBlock_cons (h : memAbort s.cfg (wordAddress a) .word .read s.privileged = false) :
    ∃ n, loadBlock m (r :: regs) a s = loadBlock m regs (a + 4) (loadStep m r a n s) := by
  obtain ⟨n, hn⟩ := memRead_eq_done (accessAddress_word s.cfg a) h
  exact ⟨n, by rw [loadBlock, hn, loadStep]⟩

theorem loadBlock_cons_aborted (h : memAbort s.cfg (wordAddress a) .word .read s.privileged = true) :
    loadBlock m (r :: regs) a s = .aborted (drawRegs m (r :: regs) s) := by
  rw [loadBlock, memRead_aborted.2 ⟨_, accessAddress_word s.cfg a, h⟩]

theorem loadStep_only (h : r ≠ 15) (n : Nat) : OnlyRegisters s (loadStep m r a n s) :=
  (onlyRegisters_draws s n).trans (onlyRegisters_setPhys _ (bank_ne_pc m h) _)

theorem loadStep_getPhys_other {q : PhysReg} (hq : q ≠ bank m r) (n : Nat) : (loadStep m r a n s).getPhys q = s.getPhys q := by
  rw [loadStep, State.getPhys_setPhys_other _ hq]
  cases q <;> rfl

/-- What has been loaded: the first `j` registers of the list hold the words from `a` up, one after the other; no register outside the list
has changed. -/
structure Loaded (m : Option Mode) (regs : List RegNo) (j : Nat) (a : Word) (s t : State) : Prop where
  only : OnlyRegisters s t
  value : ∀ k r, k < j → regs[k]? = some r → BlockValue s a k (t.getPhys (bank m r))
  other : ∀ q, q ∉ regs.map (bank m) → t.getPhys q = s.getPhys q

/-- A register below r15 loaded before the others of a list without it. -/
theorem loaded_cons {j n : Nat} {t : State} (hr : r ≠ 15) (hnot : r ∉ regs) (h : Loaded m regs j (a + 4) (loadStep m r a n s) t) :
    Loaded m (r :: regs) (j + 1) a s t := by
  have hstep := loadStep_only (m := m) (a := a) (s := s) hr n
  refine ⟨hstep.trans h.only, fun k r' hk hget => ?_, fun q hq => ?_⟩
  · cases k with
    | zero =>
      obtain rfl : r = r' := by simpa using hget
      have hkeep : bank m r ∉ regs.map (bank m) := fun hm => by
        obtain ⟨r', hr', he⟩ := List.mem_map.1 hm
        exact hnot (bank_injective m he ▸ hr')
      rw [h.other _ hkeep, loadStep, State.getPhys_setPhys_same]
      simpa using blockValue_dataValue s a 0
    | succ k => exact blockValue_succ hstep.cfg hstep.mem (h.value k r' (by omega) (by simpa using hget))
  · simp only [List.map_cons, List.mem_cons, not_or] at hq
    rw [h.other q hq.2, loadStep_getPhys_other hq.1]

/-- A block none of whose words aborts is loaded whole. -/
theorem loadBlock_loaded (hpc : 15 ∉ regs) (hnodup : regs.Nodup) (habort : noAbort s .read a regs.length) :
    ∃ t, loadBlock m regs a s = .complete (blockAddress a regs.length) t ∧ Loaded m regs regs.length a s t := by
  induction regs generalizing a s with
  | nil => exact ⟨s, by simp [loadBlock], .refl s, by simp, by simp⟩
  | cons r regs ih =>
    simp only [List.mem_cons, not_or] at hpc
    obtain ⟨hnot, hnodup⟩ := List.nodup_cons.1 hnodup
    obtain ⟨n, hn⟩ := loadBlock_cons (m := m) (r := r) (regs := regs) (by simpa using habort 0 (by simp))
    have hstep := loadStep_only (m := m) (a := a) (s := s) (Ne.symm hpc.1) n
    obtain ⟨t, ht, hloaded⟩ := ih (s := loadStep m r a n s) hpc.2 hnodup (noAbort_succ hstep.cfg hstep.privileged habort)
    exact ⟨t, by rw [hn, ht, blockAddress_succ, List.length_cons], loaded_cons (Ne.symm hpc.1) hnot hloaded⟩

/-- What a draw leaves alone. -/
theorem drawRegs_keeps (hpc : 15 ∉ regs) :
    OnlyRegisters s (drawRegs m regs s) ∧ ∀ q, q ∉ regs.map (bank m) → (drawRegs m regs s).getPhys q = s.getPhys q := by
  induction regs generalizing s with
  | nil => exact ⟨.refl s, fun _ _ => rfl⟩
  | cons r regs ih =>
    simp only [List.mem_cons, not_or] at hpc
    rw [drawRegs]
    obtain ⟨honly, hother⟩ := ih (s := { s.setPhys (bank m r) (Config.drawWord s.draws) with draws := s.draws + 1 }) hpc.2
    refine ⟨((onlyRegisters_setPhys s (bank_ne_pc m (Ne.symm hpc.1)) _).trans (onlyRegisters_draws _ _)).trans honly, fun q hq => ?_⟩
    simp only [List.map_cons, List.mem_cons, not_or] at hq
    rw [hother q hq.2, ← State.getPhys_setPhys_other s hq.1 (Config.drawWord s.draws)]
    cases q <;> rfl

/-- A block whose word `j` is the first to abort: the words before it are loaded, no register outside the list changes. -/
theorem loadBlock_aborted {j : Nat} (hpc : 15 ∉ regs) (hnodup : regs.Nodup) (hj : j < regs.length) (hbefore : noAbort s .read a j)
    (habort : memAbort s.cfg (wordAddress (blockAddress a j)) .word .read s.privileged = true) :
    ∃ t, loadBlock m regs a s = .aborted t ∧ Loaded m regs j a s t := by
  induction regs generalizing a s j with
  | nil => exact absurd hj (by simp)
  | cons r regs ih =>
    cases j with
    | zero =>
      obtain ⟨honly, hother⟩ := drawRegs_keeps (m := m) (s := s) hpc
      exact ⟨_, loadBlock_cons_aborted (by simpa using habort), honly, nofun, hother⟩
    | succ j =>
      simp only [List.mem_cons, not_or] at hpc
      obtain ⟨hnot, hnodup⟩ := List.nodup_cons.1 hnodup
      have hr := Ne.symm hpc.1
      obtain ⟨n, hn⟩ := loadBlock_cons (m := m) (r := r) (regs := regs) (by simpa using hbefore 0 (by omega))
      have hstep := loadStep_only (m := m) (a := a) (s := s) hr n
      obtain ⟨t, ht, hloaded⟩ := ih (s := loadStep m r a n s) (a := a + 4) (j := j) hpc.2 hnodup (by simpa using hj)
        (noAbort_succ hstep.cfg hstep.privileged hbefore) (by rwa [blockAddress_succ, hstep.cfg, hstep.privileged])
      exact ⟨t, hn.trans ht, loaded_cons hr hnot hloaded⟩

end Load

end Sys2Proof.Machine

/-! ## LDM, its three forms (R312, R315, R316, R320) -/

namespace Sys2Proof.Machine

open Sys2Proof.Claims

/-! ### Register lists -/

theorem listedRegs_nodup {n : Nat} (hn : n ≤ 16) (list : BitVec n) : (listedRegs list).Nodup := by
  refine List.Nodup.map_on (fun i hi j hj h => ?_) (List.nodup_range.filter _)
  have hi' := List.mem_range.1 (List.mem_filter.1 hi).1
  have hj' := List.mem_range.1 (List.mem_filter.1 hj).1
  have := congrArg BitVec.toNat h
  simp only [BitVec.toNat_ofNat] at this
  omega

theorem listedRegs_length_le {n : Nat} (list : BitVec n) : (listedRegs list).length ≤ n := by
  simpa [listedRegs] using List.length_filter_le (fun i => list.getLsbD i) (List.range n)

/-- A list of the registers below r15 does not have r15. -/
theorem r15_not_listed (list : BitVec 15) : (15 : RegNo) ∉ listedRegs list := by
  rw [mem_listedRegs (by decide)]
  simp [-BitVec.getLsbD_eq_getElem, BitVec.getLsbD_of_ge]

/-- The registers of a list of sixteen: those below r15, then r15. -/
theorem listedRegs_split (list : BitVec 16) :
    listedRegs list = listedRegs (list.setWidth 15) ++ if list.getLsbD 15 then [15] else [] := by
  have hfilter : ((List.range 15).filter fun i => (list.setWidth 15).getLsbD i) = (List.range 15).filter fun i => list.getLsbD i := by
    refine List.filter_congr fun i hi => ?_
    rw [BitVec.getLsbD_setWidth, decide_eq_true (List.mem_range.1 hi), Bool.true_and]
  rw [listedRegs, List.range_succ, List.filter_append, List.map_append, listedRegs, hfilter]
  cases h : list.getLsbD 15
  · simp [h, -BitVec.getLsbD_eq_getElem]
  · simp [h, -BitVec.getLsbD_eq_getElem]

/-- The register of a word of a block that may end with r15. -/
theorem getElem?_append_r15 {regs : List RegNo} {withPc : Bool} {k : Nat} {r : RegNo}
    (h : (regs ++ if withPc then [15] else [])[k]? = some r) (hr : r ≠ 15) : k < regs.length ∧ regs[k]? = some r := by
  by_cases hk : k < regs.length
  · rw [List.getElem?_append_left hk] at h
    exact ⟨hk, h⟩
  · rw [List.getElem?_append_right (by omega)] at h
    have hmem := List.mem_of_getElem? h
    cases withPc
    · simp at hmem
    · exact absurd (by simpa using hmem) hr

/-! ### The loads of LDM -/

theorem Loaded.frame {m : Option Mode} {regs : List RegNo} {j : Nat} {a : Word} {s t : State} {b : Bool}
    (h : Loaded m regs j a { s with userBankWindow := b } t) (hb : b = false) : Frame s t (regs.map (bank m)) :=
  ⟨h.only.cfg, h.only.spsr, h.only.lines, h.only.window.trans hb,
    fun q _ hq => (h.other q hq).trans (State.getPhys_window s b q)⟩

section LoadMultiple

variable {p u w : Bool} {rn : RegNo} {regs : List RegNo} {withPc : Bool} {s : State}

/-- The number of words of a block that may end with the word for r15. -/
def blockCount (regs : List RegNo) (withPc : Bool) : Nat := regs.length + if withPc then 1 else 0

theorem blockCount_eq (regs : List RegNo) (withPc : Bool) :
    (regs ++ if withPc then [(15 : RegNo)] else []).length = blockCount regs withPc := by
  rw [List.length_append, blockCount]; cases withPc <;> rfl

/-- A block without an abort: the registers below r15 are loaded, and the word for r15 goes to `last`. -/
theorem loadMultiple_complete (hpc : 15 ∉ regs) (hnodup : regs.Nodup)
    (habort : noAbort s .read (startAddress p u (s.reg rn) (blockCount regs withPc)) (blockCount regs withPc))
    (last : Option Word → Word → State → Result) :
    ∃ t, Loaded s.mode regs regs.length (startAddress p u (s.reg rn) (blockCount regs withPc)) s t ∧
      (withPc = false →
        loadMultiple p u w rn regs withPc s last = last none (newBase u (s.reg rn) (blockCount regs withPc)) t) ∧
      (withPc = true → ∃ v n, BlockValue s (startAddress p u (s.reg rn) (blockCount regs withPc)) regs.length v ∧
        loadMultiple p u w rn regs withPc s last =
          last (some v) (newBase u (s.reg rn) (blockCount regs withPc)) { t with draws := n }) := by
  obtain ⟨t, ht, hloaded⟩ := loadBlock_loaded (m := s.mode) hpc hnodup fun k hk =>
    habort k (Nat.lt_of_lt_of_le hk (Nat.le_add_right _ _))
  refine ⟨t, hloaded, fun hw => ?_, fun hw => ?_⟩
  · subst hw
    change loadBlock _ _ (startAddress p u (s.reg rn) (regs.length + if false then 1 else 0)) _ = _ at ht
    simp only [loadMultiple, ht]
    rfl
  · have hlast := habort regs.length (by simp [blockCount, hw])
    rw [← hloaded.only.cfg, ← hloaded.only.privileged] at hlast
    obtain ⟨n, hn⟩ := memRead_eq_done (accessAddress_word t.cfg _) hlast
    refine ⟨t.dataValue (wordAddress (blockAddress (startAddress p u (s.reg rn) (blockCount regs withPc)) regs.length)).toNat .word, n,
      fun hp => ?_, ?_⟩
    · rw [dataValue_of_plainWord (by rwa [plainWord, hloaded.only.cfg]), hloaded.only.mem]
    · change loadBlock _ _ (startAddress p u (s.reg rn) (regs.length + if withPc then 1 else 0)) _ = _ at ht
      simp only [loadMultiple, ht]
      rw [if_pos hw, hn]
      rfl

/-- A block whose word `j` is the first to abort. -/
theorem loadMultiple_aborted {j : Nat} (hpc : 15 ∉ regs) (hnodup : regs.Nodup) (hj : j < blockCount regs withPc)
    (hbefore : noAbort s .read (startAddress p u (s.reg rn) (blockCount regs withPc)) j)
    (habort : memAbort s.cfg (wordAddress (blockAddress (startAddress p u (s.reg rn) (blockCount regs withPc)) j)) .word .read
      s.privileged = true) (last : Option Word → Word → State → Result) :
    ∃ t, Loaded s.mode regs j (startAddress p u (s.reg rn) (blockCount regs withPc)) s t ∧
      loadMultiple p u w rn regs withPc s last =
        .next (abortMultiple w rn (newBase u (s.reg rn) (blockCount regs withPc)) s t) := by
  by_cases hlt : j < regs.length
  · obtain ⟨t, ht, hloaded⟩ := loadBlock_aborted (m := s.mode) hpc hnodup hlt hbefore habort
    refine ⟨t, hloaded, ?_⟩
    change loadBlock _ _ (startAddress p u (s.reg rn) (regs.length + if withPc then 1 else 0)) _ = _ at ht
    simp only [loadMultiple, ht]
    rfl
  · have hw : withPc = true := by
      cases withPc
      · exact absurd (by simpa [blockCount] using hj) hlt
      · rfl
    have hlen : j = regs.length := by simp [blockCount, hw] at hj; omega
    subst hlen
    obtain ⟨t, ht, hloaded⟩ := loadBlock_loaded (m := s.mode) hpc hnodup hbefore
    refine ⟨t, hloaded, ?_⟩
    rw [← hloaded.only.cfg, ← hloaded.only.privileged] at habort
    change loadBlock _ _ (startAddress p u (s.reg rn) (regs.length + if withPc then 1 else 0)) _ = _ at ht
    simp only [loadMultiple, ht]
    rw [if_pos hw, memRead_aborted.2 ⟨_, accessAddress_word t.cfg _, habort⟩]
    rfl

end LoadMultiple

/-! ### The base of a block transfer -/

theorem State.getPhys_draws (s : State) (n : Nat) (q : PhysReg) : State.getPhys { s with draws := n } q = s.getPhys q := by
  cases q <;> rfl

/-- The base written back after the words, in a state that keeps the frame. -/
theorem writeBackMultiple_keeps {s u : State} {written : List PhysReg} (w : Bool) {rn : RegNo} (base : Word) (hframe : Frame s u written)
    (hmode : u.mode = s.mode) (hpc : u.pc = s.pc) (hrn : rn ≠ 15) :
    Frame s (writeBackMultiple w rn base u) ((if w then [s.phys rn] else []) ++ written) ∧
      (writeBackMultiple w rn base u).mode = s.mode ∧ (writeBackMultiple w rn base u).pc = s.pc ∧
      (w = true → (writeBackMultiple w rn base u).getPhys (s.phys rn) = base) ∧
      ∀ q, (w = true → q ≠ s.phys rn) → (writeBackMultiple w rn base u).getPhys q = u.getPhys q := by
  unfold writeBackMultiple
  cases w
  case false => exact ⟨hframe, hmode, hpc, nofun, fun _ _ => rfl⟩
  case true =>
    exact ⟨frame_setReg hframe hmode rn base, by simp [hmode], (State.setReg_pc u hrn base).trans hpc,
      fun _ => State.getPhys_setReg_same hmode rn base, fun q hq => State.getPhys_setReg_other hmode (hq rfl) base⟩

/-- A block loaded into the current mode's registers, and the base written back, before r15 and the CPSR are seen to. -/
theorem loaded_writeBack {s t : State} {low : List RegNo} {a : Word} {w : Bool} {rn : RegNo} (base : Word) (n : Nat)
    (h : Loaded s.mode low low.length a { s with userBankWindow := false } t) (hrn : rn ≠ 15)
    (hnot : w = true → rn ∉ low) :
    ∃ u, u = writeBackMultiple w rn base { t with draws := n } ∧ Frame s u ((if w then [s.phys rn] else []) ++ low.map s.phys) ∧
      u.pc = s.pc ∧ u.cpsr = s.cpsr ∧ u.mem = s.mem ∧ NoCoprocessor s u ∧ (w = true → u.getPhys (s.phys rn) = base) ∧
      ∀ k r, low[k]? = some r → BlockValue s a k (u.getPhys (s.phys r)) := by
  have hframe : Frame s { t with draws := n } (low.map s.phys) := frame_congr (h.frame rfl) rfl rfl rfl rfl rfl
  obtain ⟨hft, -, hpc, hbase, hkeep⟩ := writeBackMultiple_keeps w base hframe h.only.mode h.only.pc hrn
  refine ⟨_, rfl, hft, hpc, by simp [h.only.cpsr], by simp [h.only.mem], ⟨by simp [h.only.replies], by simp [h.only.sent]⟩, hbase,
    fun k r hk => ?_⟩
  have hr := List.mem_of_getElem? hk
  rw [hkeep _ fun hw => s.phys_ne fun he => hnot hw (he ▸ hr)]
  have hv := h.value k r (List.getElem?_eq_some_iff.1 hk).1 hk
  rwa [State.getPhys_draws]

/-- An aborted block transfer: the Data Abort exception with the base by the abort model (R320), from a state with the parameters, the pc,
the status words and the inputs of `s`. -/
theorem abortMultiple_aborts {s u : State} {w : Bool} {rn : RegNo} {base : Word} (hrn : rn ≠ 15) (hcfg : u.cfg = s.cfg)
    (hcpsr : u.cpsr = s.cpsr) (hpc : u.pc = s.pc) (hspsr : u.spsr = s.spsr) (hlines : u.lines = s.lines) :
    DataAbortEntered s (abortMultiple w rn base { s with userBankWindow := false } u) ∧
      (∀ q, q ≠ .pc → q ≠ .abt 1 → q ≠ s.phys rn →
        (abortMultiple w rn base { s with userBankWindow := false } u).getPhys q = u.getPhys q) ∧
      BaseAfterAbort s (abortMultiple w rn base { s with userBankWindow := false } u) w base rn := by
  unfold abortMultiple
  refine ⟨dataAbort_entered (by simp [hcfg]) (by simp [hcpsr]) ?_ (by simp [hspsr]) (by simp [hlines]), fun q hq hlr hne => ?_, fun hq hlr => ?_⟩
  · exact (State.setPhys_pc u (s.phys_ne_pc hrn) _).trans hpc
  · rw [dataAbort_getPhys _ hq hlr]; exact State.getPhys_setPhys_other u hne _
  · rw [dataAbort_getPhys _ hq hlr]
    refine (State.getPhys_setPhys_same u (s.phys rn) _).trans ?_
    simp only [State.getPhys_window, State.phys_window, Bool.and_eq_true, decide_eq_true_eq]

/-! ### The ends of LDM -/

/-- What LDM (1) does after its loads: r15 takes its word, or execution goes on. -/
def ldmEnd (w : Bool) (rn : RegNo) (pcWord : Option Word) (base : Word) (s : State) : Result :=
  match pcWord with
  | some v => .next (loadPc v (writeBackMultiple w rn base s))
  | none => finish (writeBackMultiple w rn base s)

/-- What LDM (3) does after its loads. -/
def ldmReturnEnd (w : Bool) (rn : RegNo) (pcWord : Option Word) (base : Word) (s : State) : Result :=
  returnTo (pcWord.getD 0) (writeBackMultiple w rn base s)

end Sys2Proof.Machine

namespace Sys2Proof.Proofs

open Sys2Proof.Machine Sys2Proof.Claims

/-- Settles O50. -/
theorem ldmLoadsTheList : Obligations.LdmLoadsTheList := by
  intro c p u w rn list s i regs start h habort hthumb htop
  obtain ⟨-, hrn, hbase⟩ := Restrict.ldm_eq_none.1 h.2.2.1
  obtain ⟨low, hlow⟩ : ∃ low, low = listedRegs (list.setWidth 15) := ⟨_, rfl⟩
  have hsplit : regs = low ++ if list.getLsbD 15 then [15] else [] := by rw [hlow]; exact listedRegs_split list
  have hlen : regs.length = blockCount low (list.getLsbD 15) := by rw [hsplit, blockCount_eq]
  have h15 : 15 ∉ low := by rw [hlow]; exact r15_not_listed _
  have hnodup : low.Nodup := by rw [hlow]; exact listedRegs_nodup (by decide) _
  have hnot : w = true → rn ∉ low := fun hw hr => by
    have hlisted := (mem_listedRegs (by decide) list rn).1 (show rn ∈ regs by rw [hsplit]; exact List.mem_append_left _ hr)
    rw [hbase hw] at hlisted
    cases hlisted
  have hwritten : (if w then [s.phys rn] else []) ++ low.map s.phys ⊆ (if w then [s.phys rn] else []) ++ regs.map s.phys := by
    rw [hsplit, List.map_append, ← List.append_assoc]; exact List.subset_append_left ..
  obtain ⟨s1, hloaded, hshort, hlong⟩ := loadMultiple_complete (p := p) (u := u) (w := w) (rn := rn) (withPc := list.getLsbD 15)
    (s := { s with userBankWindow := false }) h15 hnodup (by rw [← hlen]; exact habort) (ldmEnd w rn)
  have hexec : exec i s = loadMultiple p u w rn low (list.getLsbD 15) { s with userBankWindow := false } (ldmEnd w rn) := by
    rw [hlow]; exact guarded_ready h _
  rw [← hlen] at hloaded hshort hlong
  cases hbit : list.getLsbD 15
  case false =>
    obtain ⟨x, hx, hframe, hpc, hcpsr, hmem, hcop, hxbase, hvalue⟩ :=
      loaded_writeBack (newBase u (s.reg rn) regs.length) s1.draws hloaded hrn hnot
    obtain ⟨t, hnext, hregs, htpc, htcpsr, hft, htcop, htmem⟩ := finish_completes hframe hpc (htop hbit)
    refine ⟨t, ?_, fun k r hk hr => ?_, fun hw => (hregs _ (s.phys_ne_pc hrn)).trans (hxbase hw), fun _ => ⟨htpc, htcpsr.trans hcpsr⟩,
      nofun, frame_mono hft hwritten, ⟨htcop.1.trans hcop.1, htcop.2.trans hcop.2⟩, fun b => by rw [htmem, hmem]⟩
    · rw [hexec, ← hnext, hx]; exact hshort hbit
    · rw [hregs _ (s.phys_ne_pc hr)]
      rw [hsplit] at hk
      exact hvalue k r (getElem?_append_r15 hk hr).2
  case true =>
    obtain ⟨v, n, hv, hgo⟩ := hlong hbit
    obtain ⟨x, hx, hframe, hpc, hcpsr, hmem, hcop, hxbase, hvalue⟩ :=
      loaded_writeBack (newBase u (s.reg rn) regs.length) n hloaded hrn hnot
    obtain ⟨hregs, hv4, hv5, hft, htcop, htmem⟩ := loadPc_completes v hframe hcpsr hthumb
    have hlast : regs.length - 1 = low.length := by rw [hlen, blockCount, if_pos hbit]; rfl
    refine ⟨loadPc v x, ?_, fun k r hk hr => ?_, fun hw => (hregs _ (s.phys_ne_pc hrn)).trans (hxbase hw), nofun,
      fun _ => ⟨v, by rw [hlast]; exact hv, hv4, hv5⟩, frame_mono hft hwritten, ⟨htcop.1.trans hcop.1, htcop.2.trans hcop.2⟩,
      fun b => by rw [htmem, hmem]⟩
    · rw [hexec, hx]; exact hgo
    · rw [hregs _ (s.phys_ne_pc hr)]
      rw [hsplit] at hk
      exact hvalue k r (getElem?_append_r15 hk hr).2

/-- Settles O51. -/
theorem ldmLoadsTheUserBank : Obligations.LdmLoadsTheUserBank := by
  intro c p u rn list s i regs start h
  have hexec : exec i s =
      if s.mode = some .user ∨ s.mode = some .system then refuse .userBankForm
      else match loadBlock (some .user) regs start { s with userBankWindow := false } with
        | .aborted s1 => .next (abortMultiple false rn (newBase u (s.reg rn) regs.length) { s with userBankWindow := false } s1)
        | .complete _ s1 => finish { s1 with userBankWindow := true } := guarded_ready h _
  refine ⟨fun hm => hexec.trans (if_pos hm), fun huser hsystem habort htop => ?_⟩
  rw [if_neg (not_or.2 ⟨huser, hsystem⟩)] at hexec
  obtain ⟨s1, hblock, hloaded⟩ := loadBlock_loaded (m := some .user) (s := { s with userBankWindow := false }) (a := start)
    (r15_not_listed list) (listedRegs_nodup (by decide) list) habort
  have honly := hloaded.only
  have hpc : s1.pc = s.pc := honly.pc
  rw [show loadBlock (some .user) regs start { s with userBankWindow := false } = _ from hblock] at hexec
  have hnext := hexec.trans (finish_eq (s := { s1 with userBankWindow := true }) (by rw [hpc]; exact htop))
  have hregs : ∀ q, q ≠ .pc → State.getPhys { s1 with userBankWindow := true, pc := s1.pc + 4 } q = s1.getPhys q := fun q hq =>
    State.getPhys_of_banks (s := s1) (t := { s1 with userBankWindow := true, pc := s1.pc + 4 }) rfl hq
  refine ⟨_, hnext, fun k r hk => ?_, rfl, congrArg (· + 4) hpc, honly.cpsr, honly.spsr, honly.cfg, fun q hq hnot => ?_,
    ⟨honly.replies, honly.sent⟩, fun b => congrArg (Memory.read · b) honly.mem⟩
  · have hr : r ≠ 15 := fun he => r15_not_listed list (he ▸ List.mem_of_getElem? hk)
    exact (hregs _ (bank_ne_pc _ hr)).symm ▸ hloaded.value k r (List.getElem?_eq_some_iff.1 hk).1 hk
  · exact (hregs q hq).trans ((hloaded.other q hnot).trans (State.getPhys_window ..))

/-- Settles O52. -/
theorem ldmReturnsFromException : Obligations.LdmReturnsFromException := by
  intro c p u w rn list s i regs start h hthumb
  obtain ⟨hrn, hbase⟩ := Restrict.ldmReturn_eq_none.1 h.2.2.1
  have hnot : w = true → rn ∉ regs := fun hw hr => by
    have hlisted := (mem_listedRegs (by decide) list rn).1 hr
    rw [hbase hw] at hlisted
    cases hlisted
  refine ⟨fun hno => ?noSpsr, fun psr hpsr habort => ?loads⟩
  case noSpsr =>
    refine (guarded_ready h _).trans ?_
    simp only [State.currentSpsr_window, hno]
    rfl
  case loads =>
    have hexec : exec i s = loadMultiple p u w rn regs true { s with userBankWindow := false } (ldmReturnEnd w rn) := by
      refine (guarded_ready h _).trans ?_
      simp only [State.currentSpsr_window, hpsr]
      rfl
    obtain ⟨s1, hloaded, -, hlong⟩ := loadMultiple_complete (p := p) (u := u) (w := w) (rn := rn) (withPc := true)
      (s := { s with userBankWindow := false }) (r15_not_listed list) (listedRegs_nodup (by decide) list) habort (ldmReturnEnd w rn)
    obtain ⟨v, n, hv, hgo⟩ := hlong rfl
    obtain ⟨x, hx, hframe, hpc, hcpsr, hmem, hcop, hxbase, hvalue⟩ :=
      loaded_writeBack (newBase u (s.reg rn) (regs.length + 1)) n hloaded hrn hnot
    have hgo' : exec i s = returnTo v x := by rw [hx]; exact hexec.trans hgo
    have hxpsr : x.currentSpsr = some psr := by
      rw [← hpsr, State.currentSpsr, State.mode, hcpsr, hframe.2.1]; rfl
    refine ⟨fun hm => ?noMode, fun hm => ?returns⟩
    case noMode => rw [hgo', returnTo, State.returnPsr, hxpsr]; simp [State.restorable, hm, refuse]
    case returns =>
      have hreturn : x.returnPsr = .ok psr :=
        State.returnPsr_ok.2 ⟨psr, hxpsr, hm, by rw [State.cpsrFrom, hframe.1, if_pos hthumb]⟩
      have hnext : exec i s = .next { x with
          cpsr := psr, pc := if psrT psr then v.extractLsb' 1 31 ++ 0b0#1 else v.extractLsb' 2 30 ++ 0b00#2 } := by
        rw [hgo', returnTo, hreturn, and_clear_one, and_clear_two]
      refine ⟨_, v, hnext, fun k r hk => ?_, fun hw => ?_, hv, rfl, rfl, frame_congr hframe rfl rfl rfl rfl rfl, hcop,
        fun b => congrArg (Memory.read · b) hmem⟩
      · have hr : r ≠ 15 := fun he => r15_not_listed list (he ▸ List.mem_of_getElem? hk)
        rw [State.getPhys_pc_cpsr x (s.phys_ne_pc hr)]
        exact hvalue k r hk
      · rw [State.getPhys_pc_cpsr x (s.phys_ne_pc hrn)]
        exact hxbase hw

/-- The base register of an LDM is not r15 (R318). -/
theorem ldm_base {form : LdmForm} {c : Cond} {p u w : Bool} {rn : RegNo} (h : restriction (form.instr c p u w rn) = none) :
    rn ≠ 15 := by
  cases form
  case current => exact (Restrict.ldm_eq_none.1 h).2.1
  case userBank => exact (Restrict.multipleUser_eq_none.1 h).2.1
  case exceptionReturn => exact (Restrict.ldmReturn_eq_none.1 h).1

/-- The loads of LDM (1) and LDM (3), where the list is that of the registers below r15 and, it may be, r15. -/
theorem loadMultiple_aborted_of_split {regs low : List RegNo} {withPc : Bool} {p u w : Bool} {rn : RegNo} {s : State} {j : Nat} {r : Result}
    {last : Option Word → Word → State → Result} (hsplit : regs = low ++ if withPc then [15] else []) (h15 : 15 ∉ low)
    (hnodup : low.Nodup) (hj : j < regs.length) (hbefore : noAbort s .read (startAddress p u (s.reg rn) regs.length) j)
    (habort : memAbort s.cfg (wordAddress (blockAddress (startAddress p u (s.reg rn) regs.length) j)) .word .read s.privileged = true)
    (hexec : r = loadMultiple p u w rn low withPc { s with userBankWindow := false } last) :
    ∃ low t, (∀ k r, k < j → regs[k]? = some r → low[k]? = some r ∧ r ≠ 15) ∧ low ⊆ regs ∧
      Loaded s.mode low j (startAddress p u (s.reg rn) regs.length) { s with userBankWindow := false } t ∧
      r = .next (abortMultiple w rn (newBase u (s.reg rn) regs.length) { s with userBankWindow := false } t) := by
  have hlen : regs.length = blockCount low withPc := by rw [hsplit, blockCount_eq]
  rw [hlen] at hj hbefore habort ⊢
  obtain ⟨t, hloaded, hgo⟩ := loadMultiple_aborted (w := w) (s := { s with userBankWindow := false }) h15 hnodup hj hbefore habort last
  refine ⟨low, t, fun k r hk hget => ?_, fun _ hr => by rw [hsplit]; exact List.mem_append_left _ hr, hloaded, hexec.trans hgo⟩
  have hklow : k < low.length := by
    have : blockCount low withPc ≤ low.length + 1 := by unfold blockCount; split <;> omega
    omega
  rw [hsplit, List.getElem?_append_left hklow] at hget
  exact ⟨hget, fun he => h15 (he ▸ List.mem_of_getElem? hget)⟩

/-- Whatever the form, an LDM whose word `j` is the first to abort has loaded the words before it and ends in `abortMultiple`. -/
theorem exec_ldm_aborted {form : LdmForm} {c : Cond} {p u w : Bool} {rn : RegNo} {s : State} {j : Nat}
    (h : Ready (form.instr c p u w rn) s) (hallowed : form.allowed s) (hj : j < form.regs.length)
    (hbefore : noAbort s .read (startAddress p u (s.reg rn) form.regs.length) j)
    (habort : memAbort s.cfg (wordAddress (blockAddress (startAddress p u (s.reg rn) form.regs.length) j)) .word .read
      s.privileged = true) :
    ∃ low t, (∀ k r, k < j → form.regs[k]? = some r → low[k]? = some r ∧ r ≠ 15) ∧
      low ⊆ form.regs ∧
      Loaded (form.bankMode s) low j (startAddress p u (s.reg rn) form.regs.length) { s with userBankWindow := false } t ∧
      exec (form.instr c p u w rn) s =
        .next (abortMultiple w rn (newBase u (s.reg rn) form.regs.length) { s with userBankWindow := false } t) := by
  cases form
  case userBank list =>
    obtain ⟨t, hblock, hloaded⟩ := loadBlock_aborted (m := some .user) (s := { s with userBankWindow := false })
      (r15_not_listed list) (listedRegs_nodup (by decide) list) hj hbefore habort
    refine ⟨listedRegs list, t, fun k r _ hk => ⟨hk, fun he => r15_not_listed list (he ▸ List.mem_of_getElem? hk)⟩, fun _ hr => hr,
      hloaded, ?_⟩
    refine (guarded_ready h _).trans ((if_neg (not_or.2 hallowed)).trans ?_)
    simp only [State.reg_window]
    rw [show loadBlock (some .user) (listedRegs list) (startAddress p u (s.reg rn) (listedRegs list).length) _ = _ from hblock]
    rfl
  case current list =>
    exact loadMultiple_aborted_of_split (listedRegs_split list) (r15_not_listed _) (listedRegs_nodup (by decide) _) hj hbefore habort
      (guarded_ready h _)
  case exceptionReturn list =>
    refine loadMultiple_aborted_of_split (withPc := true) rfl (r15_not_listed list) (listedRegs_nodup (by decide) list) hj hbefore habort
      (last := ldmReturnEnd w rn) ((guarded_ready h _).trans ?_)
    obtain ⟨psr, hpsr⟩ := Option.ne_none_iff_exists'.1 hallowed
    simp only [State.currentSpsr_window, hpsr]
    rfl

/-- Settles O54. -/
theorem abortedLdmTakesDataAbort : Obligations.AbortedLdmTakesDataAbort := by
  intro form c p u w rn s j i regs target start h hallowed hj hbefore habort
  obtain ⟨low, s1, hlow, hsub, hloaded, hexec⟩ := exec_ldm_aborted h hallowed hj hbefore habort
  have honly := hloaded.only
  obtain ⟨hentered, hregs, hbase⟩ := abortMultiple_aborts (w := w) (base := newBase u (s.reg rn) regs.length) (ldm_base h.2.2.1)
    honly.cfg honly.cpsr honly.pc honly.spsr honly.lines
  refine ⟨_, hexec, hentered, ⟨?replies, ?sent⟩, ?mem, hbase, fun k r hk hget hne hlr => ?value, fun q hq hlr hne hnot => ?other⟩
  case replies => simp [abortMultiple, honly.replies]
  case sent => simp [abortMultiple, honly.sent]
  case mem => simp [abortMultiple, honly.mem]
  case value =>
    obtain ⟨hlowk, h15⟩ := hlow k r hk hget
    rw [hregs _ (bank_ne_pc _ h15) hlr hne]
    exact hloaded.value k r hk hlowk
  case other =>
    rw [hregs q hq hlr hne, hloaded.other q fun hm => hnot (List.map_subset _ hsub hm)]
    exact State.getPhys_window ..

end Sys2Proof.Proofs

/-! ## STM, both forms (R313, R314, R317, R320, R321) -/

namespace Sys2Proof.Machine

open Sys2Proof.Claims

/-! ### The words of a list, stored where they do not abort -/

/-- The words of a list written one after the other from `a` up, each at its aligned address unless that address aborts. -/
def storeSome (aborts : Word → Bool) : List Word → Word → Memory → Memory
  | [], _, m => m
  | v :: vs, a, m =>
    storeSome aborts vs (a + 4) (if aborts (wordAddress a) then m else m.writeBytes (wordAddress a).toNat v 4)

theorem storeSome_eq_storeWords {aborts : Word → Bool} {vs : List Word} {a : Word}
    (h : ∀ k < vs.length, aborts (wordAddress (blockAddress a k)) = false) (m : Memory) : storeSome aborts vs a m = storeWords vs a m := by
  induction vs generalizing a m with
  | nil => rfl
  | cons v vs ih =>
    have h0 : aborts (wordAddress a) = false := by simpa using h 0 (by simp)
    rw [storeSome, storeWords, h0, if_neg Bool.false_ne_true]
    exact ih (fun k hk => by rw [blockAddress_succ]; exact h (k + 1) (by simpa using hk)) _

/-- Every byte outside the words of the list reads as before. -/
theorem storeSome_read_other {aborts : Word → Bool} {vs : List Word} {a : Word} {b : Nat}
    (h : ∀ k < vs.length, b < (wordAddress (blockAddress a k)).toNat ∨ (wordAddress (blockAddress a k)).toNat + 4 ≤ b) (m : Memory) :
    (storeSome aborts vs a m).read b = m.read b := by
  induction vs generalizing a m with
  | nil => rfl
  | cons v vs ih =>
    rw [storeSome, ih fun k hk => by rw [blockAddress_succ]; exact h (k + 1) (by simpa using hk)]
    split
    · rfl
    · exact Memory.read_writeBytes_other m v (by simpa using h 0 (by simp))

theorem storeSome_readWord_other {aborts : Word → Bool} {vs : List Word} {a : Word} {b : Nat}
    (h : ∀ k < vs.length, b + 4 ≤ (wordAddress (blockAddress a k)).toNat ∨ (wordAddress (blockAddress a k)).toNat + 4 ≤ b) (m : Memory) :
    (storeSome aborts vs a m).readWord b = m.readWord b :=
  readWord_congr fun i hi => storeSome_read_other (fun k hk => by have := h k hk; omega) m

/-- Each word of the list that does not abort reads back; where it aborts memory is as before. -/
theorem storeSome_readWord {aborts : Word → Bool} {vs : List Word} {a : Word} {m : Memory} (hlen : vs.length ≤ 16) (hwf : m.wf)
    {k : Nat} {v : Word} (hk : vs[k]? = some v) :
    (storeSome aborts vs a m).readWord (wordAddress (blockAddress a k)).toNat =
      if aborts (wordAddress (blockAddress a k)) then m.readWord (wordAddress (blockAddress a k)).toNat else v := by
  induction vs generalizing a m k with
  | nil => simp at hk
  | cons x vs ih =>
    rw [List.length_cons] at hlen
    have hwf' : Memory.wf (if aborts (wordAddress a) then m else m.writeBytes (wordAddress a).toNat x 4) := by
      split
      · exact hwf
      · exact Memory.writeBytes_wf hwf x (wordAddress_fits a)
    rw [storeSome]
    cases k with
    | zero =>
      obtain rfl : x = v := by simpa using hk
      rw [blockAddress_zero, storeSome_readWord_other fun j hj => ?_]
      · split
        · rfl
        · exact Memory.readWord_writeBytes hwf x (wordAddress_fits a)
      · rw [blockAddress_succ]
        simpa using blockAddress_disjoint a (j := 0) (k := j + 1) (by omega) (by omega) (by omega)
    | succ k =>
      rw [← blockAddress_succ, ih (by omega) hwf' (by simpa using hk)]
      refine ite_congr rfl (fun _ => ?_) fun _ => rfl
      have hkle : k < vs.length := (List.getElem?_eq_some_iff.1 (by simpa using hk)).1
      have hdisjoint := blockAddress_disjoint a (j := 0) (k := k + 1) (by omega) (by omega) (by omega)
      rw [blockAddress_zero, ← blockAddress_succ] at hdisjoint
      split
      · rfl
      · exact readWord_congr fun i hi => Memory.read_writeBytes_other m x (by omega)

/-! ### The stores of a block -/

/-- Which words of a block of stores abort. -/
def storeAborts (s : State) (a : Word) : Bool := memAbort s.cfg a .word .write s.privileged

/-- Every word is attempted; what is left is whether one aborted, and memory. -/
theorem storeBlock_eq (vs : List Word) (a : Word) (failed : Bool) (s : State) :
    storeBlock vs a failed s =
      (failed || (List.range vs.length).any fun k => storeAborts s (wordAddress (blockAddress a k)),
        { s with mem := storeSome (storeAborts s) vs a s.mem }) := by
  induction vs generalizing a failed s with
  | nil => simp [storeBlock, storeSome]
  | cons v vs ih =>
    have hany : ((List.range (vs.length + 1)).any fun k => storeAborts s (wordAddress (blockAddress a k))) =
        (storeAborts s (wordAddress a) || (List.range vs.length).any fun k => storeAborts s (wordAddress (blockAddress (a + 4) k))) := by
      simp only [List.range_succ_eq_map, List.any_cons, List.any_map, blockAddress_zero, blockAddress_succ]
      rfl
    rw [storeBlock, List.length_cons, hany]
    cases hab : storeAborts s (wordAddress a)
    case false =>
      rw [memWrite_eq_done (accessAddress_word s.cfg a) v hab]
      simp only [ih, storeSome, hab, Bool.false_eq_true, if_false, Bool.false_or]
      rfl
    case true =>
      rw [memWrite_aborted.2 ⟨_, accessAddress_word s.cfg a, hab⟩]
      simp only [ih, storeSome, hab, if_true, Bool.true_or, Bool.or_true]

/-- Memory after the stores of an STM. -/
def stmMemory (m : Option Mode) (list : BitVec 16) (start : Word) (s : State) : Memory :=
  storeSome (storeAborts s) ((listedRegs list).map (s.storedReg m)) start s.mem

/-- The three ends of an STM: a store into the next two instruction words, an abort, and completion. -/
theorem storeMultiple_eq (m : Option Mode) (p u w : Bool) (rn : RegNo) (list : BitVec 16) (s : State) {regs : List RegNo} {start base : Word}
    (hregs : listedRegs list = regs) (hstart : startAddress p u (s.reg rn) regs.length = start)
    (hbase : newBase u (s.reg rn) regs.length = base) :
    storeMultiple m p u w rn list { s with userBankWindow := false } =
      if pipelineChanged s.pc s.mem (stmMemory m list start s) then refuse .storeIntoPipeline
      else if (List.range regs.length).any fun k => storeAborts s (wordAddress (blockAddress start k)) then
        .next (abortMultiple w rn base { s with userBankWindow := false }
          { s with userBankWindow := false, mem := stmMemory m list start s })
      else finish (writeBackMultiple w rn base { s with userBankWindow := false, mem := stmMemory m list start s }) := by
  subst hregs hstart hbase
  have hstored : (State.storedReg { s with userBankWindow := false } m) = s.storedReg m := funext fun r => State.storedReg_window s false m r
  simp only [storeMultiple, storeBlock_eq, hstored, State.reg_window, List.length_map, Bool.false_or]
  rfl

end Sys2Proof.Machine

namespace Sys2Proof.Proofs

open Sys2Proof.Machine Sys2Proof.Claims

section Stm

variable {user : Bool} {c : Cond} {p u w : Bool} {rn : RegNo} {list : BitVec 16} {s : State}

/-- The base register of an STM is not r15 (R318). -/
theorem stm_base (h : restriction (if user then .stmUser c p u w rn list else .stm c p u w rn list) = none) : rn ≠ 15 := by
  cases user
  · exact (Restrict.stm_eq_none.1 h).2.1
  · exact (Restrict.multipleUser_eq_none.1 h).2.1

/-- Both forms are `storeMultiple`, from the current mode's bank or from the User bank. -/
theorem exec_stm (h : Ready (if user then .stmUser c p u w rn list else .stm c p u w rn list) s)
    (hmode : user = true → s.mode ≠ some .user ∧ s.mode ≠ some .system) :
    exec (if user then .stmUser c p u w rn list else .stm c p u w rn list) s =
      storeMultiple (if user then some .user else s.mode) p u w rn list { s with userBankWindow := false } := by
  cases user
  · exact guarded_ready h _
  · exact (guarded_ready h _).trans (if_neg (not_or.2 (hmode rfl)))

end Stm

/-- Settles O53. -/
theorem stmStoresTheList : Obligations.StmStoresTheList := by
  intro user c p u w rn list s i m regs start value mem h
  have hrn : rn ≠ 15 := stm_base h.2.2.1
  have hvalue : value = s.storedReg m := funext fun r => (State.storedReg_eq s m r).symm
  refine ⟨fun huser hm => ?userBank, fun hmode habort => ?stores⟩
  case userBank =>
    subst huser
    exact (guarded_ready h _).trans (if_pos hm)
  case stores =>
    have hmem : stmMemory m list start s = mem := by
      simp only [mem, hvalue]
      exact storeSome_eq_storeWords (fun k hk => habort k (by simpa using hk)) _
    have hno : ((List.range regs.length).any fun k => storeAborts s (wordAddress (blockAddress start k))) = false :=
      List.any_eq_false.2 fun k hk => by simpa [storeAborts] using habort k (List.mem_range.1 hk)
    have hexec := (exec_stm h hmode).trans (storeMultiple_eq m p u w rn list s rfl rfl rfl)
    rw [show stmMemory m list (startAddress p u (s.reg rn) (listedRegs list).length) s = mem from hmem,
      show ((List.range (listedRegs list).length).any fun k => storeAborts s (wordAddress
        (blockAddress (startAddress p u (s.reg rn) (listedRegs list).length) k))) = false from hno] at hexec
    refine ⟨fun hchanged => hexec.trans (if_pos hchanged), fun hsame htop => ?_⟩
    obtain ⟨t, hnext, htm, hbase, hpc, hcpsr, hframe, hcop⟩ :=
      store_completes (tr := ⟨start, w, newBase u (s.reg rn) regs.length⟩) mem (fun _ => hrn) htop
    refine ⟨t, (hexec.trans (if_neg (by simp [hsame]))).trans hnext, htm, fun hwf k r hk => ?_, fun b hb => ?_, hbase, hpc, hcpsr,
      hframe, hcop⟩
    · have hvs : (regs.map (s.storedReg m))[k]? = some (value r) := by rw [List.getElem?_map, hk, hvalue]; rfl
      have hlen : (regs.map (s.storedReg m)).length ≤ 16 := by rw [List.length_map]; exact listedRegs_length_le list
      have hread := storeSome_readWord (aborts := storeAborts s) (a := start) hlen hwf hvs
      rw [show storeAborts s (wordAddress (blockAddress start k)) = false from
        habort k (List.getElem?_eq_some_iff.1 hk).1] at hread
      rw [htm, ← hmem]
      exact hread
    · rw [htm, ← hmem]
      exact storeSome_read_other (fun k hk => hb k (by simpa using hk)) _

/-- Settles O55. -/
theorem abortedStmStoresTheRest : Obligations.AbortedStmStoresTheRest := by
  intro user c p u w rn list s j i m regs start address value h hmode hwf hj habort haway halign
  have hrn : rn ≠ 15 := stm_base h.2.2.1
  have hvalue : value = s.storedReg m := funext fun r => (State.storedReg_eq s m r).symm
  obtain ⟨mem, hmem⟩ : ∃ mem, mem = stmMemory m list start s := ⟨_, rfl⟩
  have hread : ∀ k r, regs[k]? = some r → mem.readWord (address k).toNat =
      if storeAborts s (address k) then s.mem.readWord (address k).toNat else value r := fun k r hk => by
    have hvs : (regs.map (s.storedReg m))[k]? = some (value r) := by rw [List.getElem?_map, hk, hvalue]; rfl
    have hlen : (regs.map (s.storedReg m)).length ≤ 16 := by rw [List.length_map]; exact listedRegs_length_le list
    rw [hmem]
    exact storeSome_readWord hlen hwf hvs
  have hpipeline : ∀ a : Word, (∀ k < regs.length, address k ≠ wordAddress a) → a.extractLsb' 0 2 = 0b00#2 →
      mem.readWord a.toNat = s.mem.readWord a.toNat := fun a ha hal => by
    have haligned : wordAddress a = a := clear_aligned hal
    rw [hmem]
    refine storeSome_readWord_other (fun k hk => ?_) _
    have := wordAddress_disjoint (a := a) (b := blockAddress start k) (Ne.symm (ha k (by simpa using hk)))
    rwa [haligned] at this
  have hsame : pipelineChanged s.pc s.mem mem = false := by
    have h4 := add_four_low_bits halign
    have h8 : (s.pc + 8).extractLsb' 0 2 = 0b00#2 := by
      rw [show s.pc + 8 = s.pc + 4 + 4 by rw [BitVec.add_assoc]; rfl]; exact add_four_low_bits h4
    simp only [pipelineChanged, hpipeline _ (fun k hk => (haway k hk).1) h4, hpipeline _ (fun k hk => (haway k hk).2) h8,
      bne_self_eq_false, Bool.or_false]
  have hany : ((List.range regs.length).any fun k => storeAborts s (wordAddress (blockAddress start k))) = true :=
    List.any_eq_true.2 ⟨j, List.mem_range.2 hj, habort⟩
  have hexec := (exec_stm h hmode).trans (storeMultiple_eq m p u w rn list s rfl rfl rfl)
  rw [show stmMemory m list (startAddress p u (s.reg rn) (listedRegs list).length) s = mem from hmem.symm, hsame,
    show ((List.range (listedRegs list).length).any fun k => storeAborts s (wordAddress
      (blockAddress (startAddress p u (s.reg rn) (listedRegs list).length) k))) = true from hany] at hexec
  obtain ⟨hentered, hregs, hbase⟩ := abortMultiple_aborts (s := s) (u := { s with userBankWindow := false, mem := mem }) (w := w)
    (base := newBase u (s.reg rn) regs.length) hrn rfl rfl rfl rfl rfl
  obtain ⟨t, ht⟩ : ∃ t, t = abortMultiple w rn (newBase u (s.reg rn) regs.length) { s with userBankWindow := false }
    { s with userBankWindow := false, mem := mem } := ⟨_, rfl⟩
  rw [← ht] at hentered hregs hbase
  have htm : t.mem = mem := by simp [ht, abortMultiple]
  refine ⟨t, by rw [ht]; exact hexec, hentered, ⟨by simp [ht, abortMultiple], by simp [ht, abortMultiple]⟩, fun k r hk hab => ?aborted,
    fun k r hk hab => ?stored, fun b hb => ?outside, hbase, fun q hq hlr hne => ?registers⟩
  case aborted => rw [htm, hread k r hk]; exact if_pos hab
  case stored => rw [htm, hread k r hk]; exact if_neg (by simpa [storeAborts] using hab)
  case outside => rw [htm, hmem]; exact storeSome_read_other (fun k hk => hb k (by simpa using hk)) _
  case registers => rw [hregs q hq hlr hne]; exact State.getPhys_of_banks rfl hq

end Sys2Proof.Proofs

/-! ## The coprocessor instructions once accepted (R352 to R358) -/

namespace Sys2Proof.Machine

open Sys2Proof.Claims

/-! ### What a coprocessor instruction does once it is accepted -/

theorem SameCore.reg {s t : State} (h : SameCore s t) (r : RegNo) : t.reg r = s.reg r := by
  rw [State.reg, h.pc, h.phys, h.getPhys, State.reg]

/-- The body of a coprocessor instruction runs where the answer has been taken. -/
theorem offered_runs {i : Instr} {cp : BitVec 4} {v : Word} {vs : List Word} {s s1 : State} (h : Ready i s) (hc : cp ∈ s.cfg.coprocs)
    (ha : cpAnswer cp (encode i) s = (.accepts v vs, s1)) :
    ∃ t, (∀ body, offered i cp s body = body v vs t) ∧ SameCore s t ∧ t.userBankWindow = false ∧ t.mem = s.mem ∧ t.cpSent = s.cpSent := by
  obtain ⟨hruns, -, hrestrict, hstop⟩ := h
  have hs1 := cpAnswer_state ha
  have hstop' : accessStop s1 (named i) = none := by rw [hs1]; exact hstop
  refine ⟨{ s1 with userBankWindow := false }, fun body => ?_, ?_, rfl, ?_, ?_⟩
  · rw [offered_accepted body hruns hc ha, checked, hrestrict, hstop']
  · rw [hs1]; exact ⟨rfl, rfl, rfl, rfl, rfl, rfl⟩
  · rw [hs1]
  · rw [hs1]

/-! ### LDC and STC as families -/

section Transfer

variable {form : CpForm} {c : Cond} {n : Bool} {rn : RegNo} {crd cp : BitVec 4} {imm : BitVec 8} {s : State}

theorem exec_ldc (form : CpForm) (c : Cond) (n : Bool) (rn : RegNo) (crd cp : BitVec 4) (imm : BitVec 8) (s : State) :
    exec (form.ldc c n rn crd cp imm) s = offered (form.ldc c n rn crd cp imm) cp s fun _ vs s =>
      ldc cp (encode (form.ldc c n rn crd cp imm)) (vs.length + 1) (form.transfer rn imm s) rn s := by
  cases form <;> rfl

theorem exec_stc (form : CpForm) (c : Cond) (n : Bool) (rn : RegNo) (crd cp : BitVec 4) (imm : BitVec 8) (s : State) :
    exec (form.stc c n rn crd cp imm) s = offered (form.stc c n rn crd cp imm) cp s fun v vs s =>
      stc cp (encode (form.stc c n rn crd cp imm)) (v :: vs) (form.transfer rn imm s) rn s := by
  cases form <;> rfl

theorem cpTransfer_congr {s t : State} (h : t.reg rn = s.reg rn) : form.transfer rn imm t = form.transfer rn imm s := by
  cases form <;> simp only [CpForm.transfer, h]

/-- The base that is written back is not r15 (R353). -/
theorem ldc_writeback (h : restriction (form.ldc c n rn crd cp imm) = none) (hw : (form.transfer rn imm s).writeback = true) :
    rn ≠ 15 := by
  have hclash : (form.transfer rn imm s).writeback = true → restriction (form.ldc c n rn crd cp imm) = Restrict.cpTransfer true rn := by
    cases form
    case postDown => exact fun _ => rfl
    case offset | postUp => rintro rfl; rfl
  rw [hclash hw] at h
  exact fun he => Bool.noConfusion (Restrict.cpTransfer_eq_none.1 h he)

theorem stc_writeback (h : restriction (form.stc c n rn crd cp imm) = none) (hw : (form.transfer rn imm s).writeback = true) :
    rn ≠ 15 := by
  refine ldc_writeback (c := c) (n := n) (crd := crd) (cp := cp) ?_ hw
  rw [← h]
  cases form <;> rfl

end Transfer

/-! ### The words taken and given -/

/-- What is recorded of the words a coprocessor takes, numbered from `k` on, the last first. -/
def takenWords (cp : BitVec 4) (w : Word) (k : Nat) (words : List Word) : List CpEvent :=
  ((words.zipIdx k).map fun x => CpEvent.takeWord cp w x.2 x.1).reverse

theorem takenWords_cons (cp : BitVec 4) (w : Word) (k : Nat) (v : Word) (words : List Word) (sent : List CpEvent) :
    takenWords cp w k (v :: words) ++ sent = takenWords cp w (k + 1) words ++ (.takeWord cp w k v :: sent) := by
  simp [takenWords]

/-- What is recorded of the words a coprocessor gives. -/
def givenWords (cp : BitVec 4) (w : Word) (k : Nat) (words : List Word) : List CpEvent :=
  ((words.zipIdx k).map fun x => CpEvent.giveWord cp w x.2 x.1).reverse

theorem givenWords_cons (cp : BitVec 4) (w : Word) (k : Nat) (v : Word) (words : List Word) (sent : List CpEvent) :
    givenWords cp w k (v :: words) ++ sent = givenWords cp w (k + 1) words ++ (.giveWord cp w k v :: sent) := by
  simp [givenWords]

/-- The words of an LDC up to the first that aborts: all `n` of them when `j = n`. -/
theorem takeWords_eq {cp : BitVec 4} {w : Word} {n j k : Nat} {a : Word} {s : State} (hj : j ≤ n) (hbefore : noAbort s .read a j)
    (habort : j < n → memAbort s.cfg (wordAddress (blockAddress a j)) .word .read s.privileged = true) :
    ∃ (words : List Word) (m : Nat), words.length = j ∧ (∀ i x, words[i]? = some x → BlockValue s a i x) ∧
      takeWords cp w n k a s = (decide (j < n), { s with cpSent := takenWords cp w k words ++ s.cpSent, draws := m }) := by
  induction n generalizing j k a s with
  | zero => exact ⟨[], s.draws, by simp; omega, by simp, by simp [takeWords, takenWords]⟩
  | succ n ih =>
    cases j with
    | zero =>
      have hab := habort (by omega)
      rw [blockAddress_zero] at hab
      refine ⟨[], s.draws, rfl, by simp, ?_⟩
      rw [takeWords, memRead_aborted.2 ⟨_, accessAddress_word s.cfg a, hab⟩]
      simp [takenWords]
    | succ j =>
      obtain ⟨d, hd⟩ := memRead_eq_done (accessAddress_word s.cfg a) (by simpa using hbefore 0 (by omega))
      obtain ⟨v, hv⟩ : ∃ v, v = s.dataValue (wordAddress a).toNat .word := ⟨_, rfl⟩
      obtain ⟨t, ht⟩ : ∃ t, t = State.sent { s with draws := d } (.takeWord cp w k v) := ⟨_, rfl⟩
      obtain ⟨words, m, hlen, hvalue, hwords⟩ := ih (j := j) (k := k + 1) (a := a + 4) (s := t) (by omega)
        (noAbort_succ (by rw [ht]; rfl) (by rw [ht]; rfl) hbefore)
        (fun hlt => by rw [blockAddress_succ, ht]; exact habort (by omega))
      refine ⟨v :: words, m, by simp [hlen], fun i x hi => ?_, ?_⟩
      · cases i with
        | zero =>
          obtain rfl : v = x := by simpa using hi
          rw [hv]
          simpa using blockValue_dataValue s a 0
        | succ i => exact blockValue_succ (t := t) (by rw [ht]; rfl) (by rw [ht]; rfl) (hvalue i x (by simpa using hi))
      · rw [takeWords, hd, takenWords_cons]
        simp only [← hv, ← ht, hwords, Nat.add_lt_add_iff_right]
        rw [ht]
        rfl

/-- The words of an STC up to the first that aborts: all of them when `j` is their number. -/
theorem giveWords_eq {cp : BitVec 4} {w : Word} {vs : List Word} {j k : Nat} {a : Word} {s : State} (hj : j ≤ vs.length)
    (hbefore : noAbort s .write a j)
    (habort : j < vs.length → memAbort s.cfg (wordAddress (blockAddress a j)) .word .write s.privileged = true) :
    giveWords cp w vs k a s = (decide (j < vs.length),
      { s with mem := storeWords (vs.take j) a s.mem, cpSent := givenWords cp w k (vs.take (j + 1)) ++ s.cpSent }) := by
  induction vs generalizing j k a s with
  | nil => simp [giveWords, storeWords, givenWords]
  | cons v vs ih =>
    cases j with
    | zero =>
      have hab := habort (by simp)
      rw [blockAddress_zero] at hab
      have hwrite : memWrite .word a v s.privileged (s.sent (.giveWord cp w k v)) = .aborted :=
        memWrite_aborted.2 ⟨_, accessAddress_word s.cfg a, hab⟩
      rw [giveWords, hwrite]
      simp [storeWords, givenWords, State.sent]
    | succ j =>
      have hwrite := memWrite_eq_done (s := s.sent (.giveWord cp w k v)) (priv := s.privileged) (accessAddress_word s.cfg a) v
        (by simpa using hbefore 0 (by omega))
      obtain ⟨t, ht⟩ : ∃ t, t = ({ s.sent (.giveWord cp w k v) with
        mem := s.mem.writeBytes (wordAddress a).toNat v 4 } : State) := ⟨_, rfl⟩
      have hrest := ih (j := j) (k := k + 1) (a := a + 4) (s := t) (by simpa using hj)
        (noAbort_succ (by rw [ht]; rfl) (by rw [ht]; rfl) hbefore)
        (fun hlt => by rw [blockAddress_succ, ht]; exact habort (by simpa using hlt))
      rw [giveWords, hwrite]
      refine (show _ = giveWords cp w vs (k + 1) (a + 4) t by rw [ht]; rfl).trans ?_
      rw [hrest, List.take_succ_cons, List.take_succ_cons, givenWords_cons, storeWords, ht]
      simp only [List.length_cons, Nat.add_lt_add_iff_right]
      rfl

theorem storeWords_read_other {vs : List Word} {a : Word} {b : Nat} (m : Memory)
    (h : ∀ k < vs.length, b < (wordAddress (blockAddress a k)).toNat ∨ (wordAddress (blockAddress a k)).toNat + 4 ≤ b) :
    (storeWords vs a m).read b = m.read b := by
  rw [← storeSome_eq_storeWords (aborts := fun _ => false) (fun _ _ => rfl)]
  exact storeSome_read_other h m

/-! ### The ends -/

section Ends

variable {s x : State} (hcore : SameCore s x) (hw : x.userBankWindow = false) (htop : s.pc.toNat < 0xFFFFFFFC)

include hcore hw htop

/-- What has been recorded, and no more. -/
theorem sent_completes (e : CpEvent) :
    ∃ t, finish (x.sent e) = .next t ∧ t.cpSent = e :: x.cpSent ∧ t.pc = s.pc + 4 ∧ t.cpsr = s.cpsr ∧ Frame s t [] ∧
      t.mem = x.mem := by
  have hframe : Frame s (x.sent e) [] := frame_congr (hcore.frame hw) rfl rfl rfl rfl rfl
  obtain ⟨t, hnext, -, hpc, hcpsr, hft, hcop, hmem⟩ := finish_completes hframe hcore.pc htop
  exact ⟨t, hnext, hcop.2, hpc, hcpsr.trans hcore.cpsr, hft, hmem⟩

/-- The base written back after the words of a transfer. -/
theorem cpTransfer_completes {tr : Transfer} {rn : RegNo} (hrn : tr.writeback = true → rn ≠ 15) :
    ∃ t, finish (writeBack tr rn x) = .next t ∧ t.cpSent = x.cpSent ∧ t.mem = x.mem ∧ BaseAfter s t tr rn ∧ t.pc = s.pc + 4 ∧
      t.cpsr = s.cpsr ∧ Frame s t (storeWrites s tr rn) := by
  obtain ⟨hframe, -, hpc, hbase⟩ := writeBack_keeps hcore hw hrn
  obtain ⟨t, hnext, hregs, htpc, htcpsr, hft, hcop, hmem⟩ := finish_completes hframe hpc htop
  exact ⟨t, hnext, hcop.2.trans (by simp), hmem.trans (by simp), fun hwb => (hregs _ (s.phys_ne_pc (hrn hwb))).trans (hbase hwb), htpc,
    htcpsr.trans (by simp [hcore.cpsr]), hft⟩

end Ends

end Sys2Proof.Machine

namespace Sys2Proof.Proofs

open Sys2Proof.Machine Sys2Proof.Claims

/-- Settles O57. -/
theorem coprocessorRegisterTransfers : Obligations.CoprocessorRegisterTransfers := by
  intro i cp v vs s s1 _ h hc ha htop
  obtain ⟨x, hx, hcore, hw, hmem, hsent⟩ := offered_runs h hc ha
  refine ⟨?cdp, ?mcr, ?mrc⟩
  case cdp =>
    rintro c op1 crn crd op2 crm rfl
    obtain ⟨t, hnext, htsent, hpc, hcpsr, hframe, htmem⟩ := sent_completes hcore hw htop (.dataOp cp (encode (.cdp c op1 crn crd cp op2 crm)))
    exact ⟨t, (hx _).trans hnext, by rw [htsent, hsent], hpc, hcpsr, hframe, fun b => by rw [htmem, hmem]⟩
  case mcr =>
    rintro c op1 crn rd op2 crm rfl
    obtain ⟨t, hnext, htsent, hpc, hcpsr, hframe, htmem⟩ :=
      sent_completes hcore hw htop (.fromArm cp (encode (.mcr c op1 crn rd cp op2 crm)) (x.storedReg x.mode rd))
    refine ⟨t, (hx _).trans hnext, ?_, hpc, hcpsr, hframe, fun b => by rw [htmem, hmem]⟩
    rw [htsent, hsent, State.storedReg_current, hcore.pc, hcore.cfg, hcore.reg]
  case mrc =>
    rintro c op1 crn rd op2 crm rfl
    obtain ⟨y, hy⟩ : ∃ y, y = x.sent (.toArm cp (encode (.mrc c op1 crn rd cp op2 crm)) v) := ⟨_, rfl⟩
    have hexec : exec (.mrc c op1 crn rd cp op2 crm) s = mrcResult rd v y := by rw [hy]; exact hx _
    have hycore : SameCore s y := by rw [hy]; exact hcore.trans ⟨rfl, rfl, rfl, rfl, rfl, rfl⟩
    have hysent : y.cpSent = .toArm cp (encode (.mrc c op1 crn rd cp op2 crm)) v :: s.cpSent := by rw [hy, ← hsent]; rfl
    have hymem : y.mem = s.mem := by rw [hy, ← hmem]; rfl
    have hyframe : Frame s y [] := hycore.frame (by rw [hy]; exact hw)
    by_cases hrd : rd = 15
    · obtain ⟨t, hnext, -, hpc, hcpsr, hframe, hcop, htmem⟩ := finish_completes
        (u := { y with cpsr := psrWithFlags y.cpsr (v.getLsbD 31) (v.getLsbD 30) (v.getLsbD 29) (v.getLsbD 28) })
        (frame_congr hyframe rfl rfl rfl rfl rfl) hycore.pc htop
      refine ⟨t, hexec.trans ((if_pos hrd).trans hnext), hcop.2.trans hysent, hpc, fun hne => absurd hrd hne, fun _ => ?_,
        by rwa [if_pos hrd], fun b => by rw [htmem, hymem]⟩
      rw [hcpsr, hycore.cpsr]
      exact flagsAre_psrWithFlags ..
    · obtain ⟨t, hnext, hregs, hpc, hcpsr, hframe, hcop, htmem⟩ := finish_completes
        (frame_setReg hyframe hycore.mode rd v) ((State.setReg_pc y hrd v).trans hycore.pc) htop
      refine ⟨t, hexec.trans ((if_neg hrd).trans hnext), hcop.2.trans (by simp [hysent]), hpc, fun _ => ⟨?_, ?_⟩, fun he => absurd he hrd,
        by rwa [if_neg hrd], fun b => by rw [htmem, State.setReg_mem, hymem]⟩
      · rw [hregs _ (s.phys_ne_pc hrd), State.getPhys_setReg_same hycore.mode]
      · rw [hcpsr, State.setReg_cpsr, hycore.cpsr]

/-- Settles O58. -/
theorem ldcGivesWordsToTheCoprocessor : Obligations.LdcGivesWordsToTheCoprocessor := by
  intro form c n rn crd cp imm v vs s s1 i tr h hc ha htop habort
  obtain ⟨x, hx, hcore, hw, hmem, hsent⟩ := offered_runs h hc ha
  have hexec : exec i s = ldc cp (encode i) (vs.length + 1) tr rn x := by
    refine (exec_ldc ..).trans ((hx _).trans ?_)
    rw [cpTransfer_congr (hcore.reg rn)]
  obtain ⟨words, m, hlen, hvalue, hwords⟩ := takeWords_eq (cp := cp) (w := encode i) (k := 0) (s := x) (le_refl (vs.length + 1))
    (a := tr.address) (fun k hk => by rw [hcore.cfg, hcore.privileged]; exact habort k hk) (fun hlt => absurd hlt (lt_irrefl _))
  obtain ⟨y, hy⟩ : ∃ y, y = ({ x with cpSent := takenWords cp (encode i) 0 words ++ x.cpSent, draws := m } : State) := ⟨_, rfl⟩
  have hycore : SameCore s y := by rw [hy]; exact hcore.trans ⟨rfl, rfl, rfl, rfl, rfl, rfl⟩
  obtain ⟨t, hnext, htsent, htmem, hbase, hpc, hcpsr, hframe⟩ :=
    cpTransfer_completes hycore (by rw [hy]; exact hw) htop fun hwb => ldc_writeback (s := s) h.2.2.1 hwb
  refine ⟨t, words, ?_, hlen, fun k w hk => ?_, ?_, hbase, hpc, hcpsr, hframe, fun b => by rw [htmem, hy, hmem]⟩
  · rw [hexec, ldc, hwords, ← hnext, hy]
    simp only [lt_irrefl, decide_false]
    rfl
  · have hv := hvalue k w hk
    rw [BlockValue, plainWord, hcore.cfg, hmem] at hv
    exact hv
  · rw [htsent, hy, ← hsent]; rfl

/-- Settles O59. -/
theorem stcStoresTheCoprocessorsWords : Obligations.StcStoresTheCoprocessorsWords := by
  intro form c n rn crd cp imm v vs s s1 i tr mem h hc ha htop habort
  obtain ⟨x, hx, hcore, hw, hmem, hsent⟩ := offered_runs h hc ha
  have hexec : exec i s = stc cp (encode i) (v :: vs) tr rn x := by
    refine (exec_stc ..).trans ((hx _).trans ?_)
    rw [cpTransfer_congr (hcore.reg rn)]
  have hwords := giveWords_eq (cp := cp) (w := encode i) (vs := v :: vs) (k := 0) (s := x) (le_refl _) (a := tr.address)
    (fun k hk => by rw [hcore.cfg, hcore.privileged]; exact habort k hk) (fun hlt => absurd hlt (lt_irrefl _))
  rw [List.take_length, List.take_of_length_le (Nat.le_succ _), decide_eq_false (lt_irrefl _), hmem, hsent] at hwords
  obtain ⟨y, hy⟩ : ∃ y, y = ({ x with mem := mem, cpSent := givenWords cp (encode i) 0 (v :: vs) ++ s.cpSent } : State) := ⟨_, rfl⟩
  have hexec' : exec i s =
      if pipelineChanged s.pc s.mem mem then refuse .storeIntoPipeline else finish (writeBack tr rn y) := by
    rw [hexec, stc, hwords, ← hy, ← hcore.pc, ← hmem]
    rw [show mem = y.mem by rw [hy]]
    rfl
  have hycore : SameCore s y := by rw [hy]; exact hcore.trans ⟨rfl, rfl, rfl, rfl, rfl, rfl⟩
  refine ⟨fun hchanged => hexec'.trans (if_pos hchanged), fun hsame => ?_⟩
  obtain ⟨t, hnext, htsent, htmem, hrest⟩ :=
    cpTransfer_completes hycore (by rw [hy]; exact hw) htop fun hwb => stc_writeback (s := s) h.2.2.1 hwb
  have htm : t.mem = mem := by rw [htmem, hy]
  refine ⟨t, (hexec'.trans (if_neg (by simp [hsame]))).trans hnext, htm, fun b hb => ?_, by rw [htsent, hy]; rfl, hrest⟩
  rw [htm]
  exact storeWords_read_other _ fun k hk => hb k (by simpa using hk)

/-- Settles O60. -/
theorem abortedCoprocessorTransfers : Obligations.AbortedCoprocessorTransfers := by
  intro form c n rn crd cp imm v vs s s1 j tr address load store mem hj hc
  refine ⟨fun h ha hbefore habort => ?load, fun h ha hbefore habort => ?store⟩
  case load =>
    obtain ⟨x, hx, hcore, hw, hmem, hsent⟩ := offered_runs h hc ha
    have hexec : exec load s = ldc cp (encode load) (vs.length + 1) tr rn x := by
      refine (exec_ldc ..).trans ((hx _).trans ?_)
      rw [cpTransfer_congr (hcore.reg rn)]
    obtain ⟨words, m, hlen, hvalue, hwords⟩ := takeWords_eq (cp := cp) (w := encode load) (k := 0) (s := x) (le_of_lt hj)
      (a := tr.address) (fun k hk => by rw [hcore.cfg, hcore.privileged]; exact hbefore k hk)
      (fun _ => by rw [hcore.cfg, hcore.privileged]; exact habort)
    obtain ⟨y, hy⟩ : ∃ y, y = ({ x with cpSent := takenWords cp (encode load) 0 words ++ x.cpSent, draws := m } : State) := ⟨_, rfl⟩
    have hycore : SameCore s y := by rw [hy]; exact hcore.trans ⟨rfl, rfl, rfl, rfl, rfl, rfl⟩
    obtain ⟨hentered, hregs, hbase⟩ := abortBase_aborts hycore fun hwb => ldc_writeback (s := s) h.2.2.1 hwb
    refine ⟨_, words, ?_, hentered, by simp [hy, hmem], hlen, fun k w hk => ?_, ?_, hregs, hbase⟩
    · rw [hexec, ldc, hwords, ← hy, decide_eq_true hj]
    · have hv := hvalue k w hk
      rw [BlockValue, plainWord, hcore.cfg, hmem] at hv
      exact hv
    · rw [takeException_cpSent, abortBase_cpSent, hy, ← hsent]; rfl
  case store =>
    obtain ⟨x, hx, hcore, hw, hmem, hsent⟩ := offered_runs h hc ha
    have hexec : exec store s = stc cp (encode store) (v :: vs) tr rn x := by
      refine (exec_stc ..).trans ((hx _).trans ?_)
      rw [cpTransfer_congr (hcore.reg rn)]
    have hwords := giveWords_eq (cp := cp) (w := encode store) (vs := v :: vs) (k := 0) (s := x) (le_of_lt hj) (a := tr.address)
      (fun k hk => by rw [hcore.cfg, hcore.privileged]; exact hbefore k hk)
      (fun _ => by rw [hcore.cfg, hcore.privileged]; exact habort)
    rw [decide_eq_true (show j < (v :: vs).length from hj), hmem, hsent] at hwords
    obtain ⟨y, hy⟩ : ∃ y, y = ({ x with mem := mem, cpSent := givenWords cp (encode store) 0 ((v :: vs).take (j + 1)) ++ s.cpSent } : State) :=
      ⟨_, rfl⟩
    have hexec' : exec store s =
        if pipelineChanged s.pc s.mem mem then refuse .storeIntoPipeline else .next (takeException .dataAbort (abortBase tr rn y)) := by
      rw [hexec, stc, hwords, ← hy, ← hcore.pc, ← hmem]
      rw [show mem = y.mem by rw [hy]]
      rfl
    have hycore : SameCore s y := by rw [hy]; exact hcore.trans ⟨rfl, rfl, rfl, rfl, rfl, rfl⟩
    obtain ⟨hentered, hregs, hbase⟩ := abortBase_aborts hycore fun hwb => stc_writeback (s := s) h.2.2.1 hwb
    refine ⟨fun hchanged => hexec'.trans (if_pos hchanged), fun hsame => ⟨_, hexec'.trans (if_neg (by simp [hsame])), hentered,
      by simp [hy], fun b hb => ?_, by rw [takeException_cpSent, abortBase_cpSent, hy]; rfl, hregs, hbase⟩⟩
    rw [takeException_mem, abortBase_mem, hy]
    refine storeWords_read_other _ fun k hk => hb k ?_
    simp only [List.length_take] at hk
    omega

end Sys2Proof.Proofs

/-! ## What an instruction may change (R34, R35, R43, R440)

An instruction goes on, or it enters an exception. Either way the parameters and the inputs stay, memory keeps its canonical form, and the
status word changes only as `StatusMove` allows. -/

namespace Sys2Proof.Machine

/-! ### The fields of the status word -/

/-- The fields of the status word that User mode does not change: mode, I, F and bits 23:8. -/
structure UserFields (p q : Word) : Prop where
  mode : psrMode q = psrMode p
  irq : psrI q = psrI p
  fiq : psrF q = psrF p
  middle : q.extractLsb' 8 16 = p.extractLsb' 8 16

theorem getLsbD_of_extract {p q : Word} {start n i : Nat} (h : q.extractLsb' start n = p.extractLsb' start n) (hi : start ≤ i)
    (hin : i < start + n) : q.getLsbD i = p.getLsbD i := by
  have hbit := congrArg (fun b => b.getLsbD (i - start)) h
  simpa only [BitVec.getLsbD_extractLsb', show i - start < n by omega, decide_true, Bool.true_and,
    show start + (i - start) = i by omega] using hbit

/-- The fields are bits 4:0, 7:6 and 23:8. -/
theorem userFields_of_bits {p q : Word} (h : ∀ i, i < 5 ∨ (6 ≤ i ∧ i < 24) → q.getLsbD i = p.getLsbD i) : UserFields p q := by
  refine ⟨?mode, h 7 (by omega), h 6 (by omega), ?middle⟩
  all_goals
    apply BitVec.eq_of_getLsbD_eq; intro i hi
    simp only [psrMode, BitVec.getLsbD_extractLsb']
    rw [h _ (by omega)]

theorem psrWithT_getLsbD (p : Word) (t : Bool) {i : Nat} (hi : i ≠ 5) : (psrWithT p t).getLsbD i = p.getLsbD i := by
  simp only [psrWithT, bit, BitVec.getLsbD_append, BitVec.getLsbD_extractLsb']
  by_cases hlow : i < 5
  · simp [hlow]
  · rw [if_neg (by omega), if_neg (by omega), show 6 + (i - 5 - 1) = i by omega]
    by_cases hhigh : i < 32
    · simp [show i - 5 - 1 < 26 by omega]
    · simp [BitVec.getLsbD_of_ge p i (by omega), -BitVec.getLsbD_eq_getElem]

theorem userFields_psrWithT (p : Word) (t : Bool) : UserFields p (psrWithT p t) :=
  userFields_of_bits fun _ hi => psrWithT_getLsbD p t (by omega)

/-! ### The moves of the status word -/

/-- What an instruction that enters no exception may put into the CPSR: a mode where there was one, T = 0 without Thumb support, and in User
mode no change of the fields that are privileged. -/
structure StatusMove (s : State) (p : Word) : Prop where
  mode : s.mode ≠ none → Mode.ofBits (psrMode p) ≠ none
  thumb : s.cfg.hasThumb = false → psrT s.cpsr = false → psrT p = false
  user : s.mode = some .user → UserFields s.cpsr p

theorem StatusMove.refl (s : State) : StatusMove s s.cpsr := ⟨id, fun _ => id, fun _ => ⟨rfl, rfl, rfl, rfl⟩⟩

/-- The flags are above the fields. -/
theorem statusMove_psrWithFlags (s : State) (n z c v : Bool) : StatusMove s (psrWithFlags s.cpsr n z c v) := by
  obtain ⟨-, -, -, -, hlow⟩ := flagsAre_psrWithFlags s.cpsr n z c v
  have hbits : ∀ i < 28, (psrWithFlags s.cpsr n z c v).getLsbD i = s.cpsr.getLsbD i := fun _ hi =>
    getLsbD_of_extract hlow (Nat.zero_le _) (by omega)
  exact ⟨by rw [psrMode_psrWithFlags]; exact id, fun _ hT => (hbits 5 (by decide)).trans hT,
    fun _ => userFields_of_bits fun i hi => hbits i (by omega)⟩

theorem psrT_cpsrFrom {s : State} (h : s.cfg.hasThumb = false) (p : Word) : psrT (s.cpsrFrom p) = false := by
  rw [State.cpsrFrom, h]; exact psrT_psrWithT p false

theorem cpsrFrom_cases (s : State) (p : Word) : s.cpsrFrom p = p ∨ s.cpsrFrom p = psrWithT p false := by
  unfold State.cpsrFrom
  split
  · exact .inl rfl
  · exact .inr rfl

theorem psrMode_cpsrFrom (s : State) (p : Word) : psrMode (s.cpsrFrom p) = psrMode p := by
  rcases cpsrFrom_cases s p with h | h
  · rw [h]
  · rw [h, psrMode_psrWithT]

/-- T is written by every mode; without Thumb support it stays 0. -/
theorem statusMove_setT (s : State) (t : Bool) : StatusMove s (s.cpsrFrom (psrWithT s.cpsr t)) := by
  refine ⟨by rw [psrMode_cpsrFrom, psrMode_psrWithT]; exact id, fun h _ => psrT_cpsrFrom h _, fun _ => ?_⟩
  rcases cpsrFrom_cases s (psrWithT s.cpsr t) with h | h
  · rw [h]; exact userFields_psrWithT ..
  · rw [h]
    exact userFields_of_bits fun i hi => (psrWithT_getLsbD _ _ (by omega)).trans (psrWithT_getLsbD _ _ (by omega))

/-- User mode has no SPSR, so a status word that is restored leaves another mode. -/
theorem statusMove_returnPsr {s : State} {p : Word} (h : s.returnPsr = .ok p) : StatusMove s p := by
  obtain ⟨q, hq, hmode, rfl⟩ := State.returnPsr_ok.1 h
  refine ⟨fun _ => by rwa [psrMode_cpsrFrom], fun hthumb _ => psrT_cpsrFrom hthumb q, fun huser => ?_⟩
  simp [State.currentSpsr, huser] at hq

theorem privileged_eq_false {s : State} (h : s.mode = some .user) : s.privileged = false := by
  have hbits : ∀ b : BitVec 5, Mode.ofBits b = some .user → b = 0b10000 := by decide
  rw [State.privileged, hbits _ h]; rfl

/-- MSR writes no T; it writes a mode field in privileged modes only, and then a mode. -/
theorem statusMove_cpsrAfterMsr {s : State} {fields : BitVec 4} {operand : Word}
    (hT : psrT (cpsrAfterMsr fields operand s) = psrT s.cpsr)
    (hmode : cpsrBytes fields s 0 = true → Mode.ofBits (psrMode (cpsrAfterMsr fields operand s)) ≠ none) :
    StatusMove s (cpsrAfterMsr fields operand s) := by
  refine ⟨fun hm => ?mode, fun _ h => hT.trans h, fun huser => userFields_of_bits fun i hi => ?user⟩
  case mode =>
    by_cases hb : cpsrBytes fields s 0 = true
    · exact hmode hb
    · rwa [psrMode_cpsrAfterMsr, if_neg hb]
  case user =>
    have hk : i / 8 < 3 := by omega
    have hkept : cpsrBytes fields s (i / 8) = false := by
      rw [cpsrBytes, privileged_eq_false huser, Bool.false_or, show (i / 8 == 3) = false from beq_eq_false_iff_ne.2 (by omega),
        Bool.and_false]
    have hbyte := cpsrAfterMsr_byte fields operand s (k := i / 8) (by omega)
    rw [hkept] at hbyte
    exact getLsbD_of_extract hbyte (by omega) (by omega)

/-! ### Going on, and entering an exception -/

/-- The status word, the parameters and the inputs are the same, and memory keeps its canonical form. -/
structure Keeps (s t : State) : Prop where
  cfg : t.cfg = s.cfg
  cpsr : t.cpsr = s.cpsr
  lines : t.lines = s.lines
  wf : s.mem.wf → t.mem.wf

theorem Keeps.refl (s : State) : Keeps s s := ⟨rfl, rfl, rfl, id⟩

theorem Keeps.trans {s t u : State} (h : Keeps s t) (h' : Keeps t u) : Keeps s u :=
  ⟨h'.cfg.trans h.cfg, h'.cpsr.trans h.cpsr, h'.lines.trans h.lines, h'.wf ∘ h.wf⟩

theorem Keeps.mode {s t : State} (h : Keeps s t) : t.mode = s.mode := by rw [State.mode, h.cpsr, State.mode]

theorem StatusMove.after {s u : State} {p : Word} (h : Keeps s u) (hp : StatusMove u p) : StatusMove s p := by
  obtain ⟨hmode, hthumb, huser⟩ := hp
  rw [h.mode] at hmode huser
  rw [h.cpsr] at hthumb huser
  rw [h.cfg] at hthumb
  exact ⟨hmode, hthumb, huser⟩

/-- An instruction that goes on. -/
structure GoesOn (s t : State) : Prop where
  cfg : t.cfg = s.cfg
  lines : t.lines = s.lines
  wf : s.mem.wf → t.mem.wf
  status : StatusMove s t.cpsr

theorem Keeps.goesOn {s t : State} (h : Keeps s t) : GoesOn s t := ⟨h.cfg, h.lines, h.wf, by rw [h.cpsr]; exact .refl s⟩

theorem GoesOn.after {s u t : State} (h : Keeps s u) (h' : GoesOn u t) : GoesOn s t :=
  ⟨h'.cfg.trans h.cfg, h'.lines.trans h.lines, h'.wf ∘ h.wf, h'.status.after h⟩

/-- A status word written by an instruction that goes on. -/
theorem goesOn_cpsr {s t : State} (hcfg : t.cfg = s.cfg) (hlines : t.lines = s.lines) (hmem : t.mem = s.mem)
    (h : StatusMove s t.cpsr) : GoesOn s t := ⟨hcfg, hlines, by rw [hmem]; exact id, h⟩

/-- An exception other than Reset, entered with the status word, the parameters and the inputs of `s`. -/
def Enters (s t : State) : Prop := ∃ e u, e ≠ ExceptionKind.reset ∧ Keeps s u ∧ t = takeException e u

/-- Whatever next state a result gives, the instruction has gone on or entered an exception. -/
structure Sound (s : State) (r : Result) : Prop where
  next : ∀ t, r = .next t → GoesOn s t ∨ Enters s t

theorem Sound.after {s u : State} {r : Result} (h : Keeps s u) (hr : Sound u r) : Sound s r :=
  ⟨fun t ht => (hr.next t ht).imp (GoesOn.after h) fun ⟨e, v, he, hv, htv⟩ => ⟨e, v, he, h.trans hv, htv⟩⟩

theorem sound_refuse (s : State) (u : Unpredictable) : Sound s (refuse u) := ⟨nofun⟩

theorem sound_next {s t : State} (h : GoesOn s t) : Sound s (.next t) := ⟨fun _ ht => .inl (by cases ht; exact h)⟩

theorem sound_takeException {s u : State} {e : ExceptionKind} (he : e ≠ .reset) (h : Keeps s u) :
    Sound s (.next (takeException e u)) := ⟨fun _ ht => .inr ⟨e, u, he, h, by cases ht; rfl⟩⟩

theorem sound_finish {s u : State} (h : GoesOn s u) : Sound s (finish u) := ⟨fun t ht => by
  obtain ⟨-, rfl⟩ := finish_next.1 ht
  exact .inl ⟨h.cfg, h.lines, h.wf, h.status⟩⟩

theorem sound_ite {s : State} {r r' : Result} {c : Prop} [Decidable c] (h : c → Sound s r) (h' : ¬ c → Sound s r') :
    Sound s (if c then r else r') := by
  split
  · exact h ‹_›
  · exact h' ‹_›

end Sys2Proof.Machine

/-! ## The shared operations keep the bounds (R43, R440)

One lemma for each operation the meanings are made of; `exec_sound` in the next part joins them. -/

namespace Sys2Proof.Machine

/-! ### What changes registers, the pc or memory only -/

theorem keeps_pc (s : State) (v : Word) : Keeps s { s with pc := v } := ⟨rfl, rfl, rfl, id⟩

theorem keeps_window (s : State) (b : Bool) : Keeps s { s with userBankWindow := b } := ⟨rfl, rfl, rfl, id⟩

theorem keeps_draws (s : State) (n : Nat) : Keeps s { s with draws := n } := ⟨rfl, rfl, rfl, id⟩

theorem keeps_setPhys (s : State) (q : PhysReg) (v : Word) : Keeps s (s.setPhys q v) := ⟨by simp, by simp, by simp, by simp⟩

theorem keeps_setReg (s : State) (r : RegNo) (v : Word) : Keeps s (s.setReg r v) := keeps_setPhys ..

theorem keeps_writeBack (t : Transfer) (rn : RegNo) (s : State) : Keeps s (writeBack t rn s) := ⟨by simp, by simp, by simp, by simp⟩

theorem keeps_abortBase (t : Transfer) (rn : RegNo) (s : State) : Keeps s (abortBase t rn s) := ⟨by simp, by simp, by simp, by simp⟩

theorem keeps_writeBackMultiple (w : Bool) (rn : RegNo) (base : Word) (s : State) : Keeps s (writeBackMultiple w rn base s) :=
  ⟨by simp, by simp, by simp, by simp⟩

theorem keeps_memRead {w : Width} {addr v : Word} {priv : Bool} {s s1 : State} (h : memRead w addr priv s = .done (v, s1)) :
    Keeps s s1 := by rw [memRead_state h]; exact keeps_draws ..

theorem keeps_memWrite {w : Width} {addr v : Word} {priv : Bool} {s s1 : State} (h : memWrite w addr v priv s = .done s1) :
    Keeps s s1 :=
  have hs := memWrite_state h
  ⟨by rw [hs], by rw [hs], by rw [hs], fun hm => memWrite_wf hm h⟩

theorem keeps_drawRegs (m : Option Mode) (regs : List RegNo) (s : State) : Keeps s (drawRegs m regs s) := by
  induction regs generalizing s with
  | nil => exact .refl s
  | cons r regs ih => exact ((keeps_setPhys _ (bank m r) _).trans (keeps_draws ..)).trans (ih _)

/-- The loads of a block, complete or not. -/
theorem keeps_loadBlock {m : Option Mode} {regs : List RegNo} {a : Word} {s s1 : State}
    (h : (∃ a', loadBlock m regs a s = .complete a' s1) ∨ loadBlock m regs a s = .aborted s1) : Keeps s s1 := by
  induction regs generalizing a s with
  | nil =>
    rcases h with ⟨a', h⟩ | h
    · cases h; exact .refl _
    · cases h
  | cons r regs ih =>
    rw [loadBlock] at h
    split at h
    case h_1 v s2 hv => exact ((keeps_memRead hv).trans (keeps_setPhys ..)).trans (ih h)
    case h_2 =>
      rcases h with ⟨a', h⟩ | h
      · cases h
      · cases h; exact keeps_drawRegs ..

theorem keeps_storeBlock {vs : List Word} {a : Word} {f f' : Bool} {s s1 : State} (h : storeBlock vs a f s = (f', s1)) : Keeps s s1 := by
  obtain ⟨hs, hwf⟩ := storeBlock_state h
  exact ⟨by rw [hs], by rw [hs], by rw [hs], hwf⟩

theorem keeps_takeWords {cp : BitVec 4} {w : Word} {n k : Nat} {a : Word} {f : Bool} {s s1 : State}
    (h : takeWords cp w n k a s = (f, s1)) : Keeps s s1 := by
  rw [takeWords_state h]; exact ⟨rfl, rfl, rfl, id⟩

theorem keeps_giveWords {cp : BitVec 4} {w : Word} {vs : List Word} {k : Nat} {a : Word} {f : Bool} {s s1 : State}
    (h : giveWords cp w vs k a s = (f, s1)) : Keeps s s1 := by
  obtain ⟨hs, hwf⟩ := giveWords_state h
  exact ⟨by rw [hs], by rw [hs], by rw [hs], hwf⟩

theorem keeps_cpAnswer {cp : BitVec 4} {w : Word} {s s1 : State} {r : CpReply} (h : cpAnswer cp w s = (r, s1)) : Keeps s s1 := by
  rw [cpAnswer_state h]; exact ⟨rfl, rfl, rfl, id⟩

theorem keeps_sent (s : State) (e : CpEvent) : Keeps s (s.sent e) := ⟨rfl, rfl, rfl, id⟩

/-! ### The frames -/

theorem sound_skip (s : State) : Sound s (skip s) := sound_finish (keeps_window s false).goesOn

theorem sound_checked {i : Instr} {s : State} {body : State → Result} (h : ∀ u, Sound u (body u)) : Sound s (checked i s body) :=
  ⟨fun _ ht => by
    obtain ⟨-, -, hbody⟩ := checked_next.1 ht
    exact ((h _).after (keeps_window s false)).next _ hbody⟩

/-- An instruction is sound when its body is. -/
theorem sound_guarded {i : Instr} {s : State} {body : State → Result} (h : ∀ u, Sound u (body u)) : Sound s (guarded i s body) := by
  refine ⟨fun t ht => ?_⟩
  rcases guarded_next.1 ht with ⟨-, hskip⟩ | ⟨-, -, rfl⟩ | ⟨-, hbody⟩
  · exact (sound_skip s).next t hskip
  · exact (sound_takeException (by decide) (.refl s)).next _ rfl
  · exact ((h _).after (keeps_window s false)).next t hbody

theorem sound_offered {i : Instr} {cp : BitVec 4} {s : State} {body : Word → List Word → State → Result}
    (h : ∀ v vs u, Sound u (body v vs u)) : Sound s (offered i cp s body) := by
  refine ⟨fun t ht => ?_⟩
  rcases offered_next.1 ht with ⟨-, hskip⟩ | ⟨-, -, rfl⟩ | ⟨-, -, ⟨s1, ha, rfl⟩ | ha | ⟨v, vs, s1, ha, hbody⟩⟩
  · exact (sound_skip s).next t hskip
  · exact (sound_takeException (by decide) (.refl s)).next _ rfl
  · exact (sound_takeException (by decide) (keeps_cpAnswer ha)).next _ rfl
  · exact .inl (keeps_cpAnswer ha).goesOn
  · exact ((sound_checked (h v vs)).after (keeps_cpAnswer ha)).next t hbody

/-! ### Results in the pc and in the status word -/

theorem sound_branchTo (v : Word) (s : State) : Sound s (branchTo v s) :=
  sound_ite (fun _ => sound_next (keeps_pc s v).goesOn) fun _ => sound_refuse ..

theorem sound_exceptionReturn (v : Word) (s : State) : Sound s (exceptionReturn v s) := ⟨fun t ht => by
  obtain ⟨p, hp, -, rfl⟩ := exceptionReturn_next.1 ht
  exact .inl (goesOn_cpsr rfl rfl rfl (statusMove_returnPsr hp))⟩

theorem goesOn_setT (s : State) (t : Bool) (pc : Word) : GoesOn s { s.setT t with pc := pc } :=
  goesOn_cpsr rfl rfl rfl (statusMove_setT s t)

theorem sound_branchExchange (v : Word) (s : State) : Sound s (branchExchange v s) :=
  sound_ite (fun _ => sound_refuse ..) fun _ => sound_next (goesOn_setT ..)

theorem goesOn_loadPc (v : Word) (s : State) : GoesOn s (loadPc v s) := by
  unfold loadPc
  split
  · exact goesOn_setT ..
  · exact (keeps_pc ..).goesOn

theorem sound_returnTo (v : Word) (s : State) : Sound s (returnTo v s) := by
  unfold returnTo
  split
  case h_1 => exact sound_refuse ..
  case h_2 p hp => exact sound_next (goesOn_cpsr rfl rfl rfl (statusMove_returnPsr hp))

theorem GoesOn.setReg {s u : State} (h : GoesOn s u) (r : RegNo) (v : Word) : GoesOn s (u.setReg r v) :=
  ⟨by simp [h.cfg], by simp [h.lines], by simpa using h.wf, by simpa using h.status⟩

theorem goesOn_setAluFlags (s : State) (o : AluOut) : GoesOn s (s.setAluFlags o) :=
  goesOn_cpsr rfl rfl rfl (statusMove_psrWithFlags ..)

theorem goesOn_setMultiplyFlags (n z : Bool) (s : State) : GoesOn s (setMultiplyFlags n z s) :=
  goesOn_cpsr rfl rfl rfl (statusMove_psrWithFlags ..)

theorem goesOn_ite {s u : State} {c : Prop} [Decidable c] (h : GoesOn s u) : GoesOn s (if c then u else s) := by
  split
  · exact h
  · exact (Keeps.refl s).goesOn

theorem sound_dataResult (sf : Bool) (rd : RegNo) (o : AluOut) (s : State) : Sound s (dataResult sf rd o s) :=
  sound_ite (fun _ => sound_ite (fun _ => sound_exceptionReturn ..) fun _ => sound_branchTo ..)
    fun _ => sound_finish ((goesOn_ite (goesOn_setAluFlags s o)).setReg ..)

theorem sound_dataTest (o : AluOut) (s : State) : Sound s (dataTest o s) := sound_finish (goesOn_setAluFlags s o)

theorem sound_multiplyResult (sf : Bool) (rd : RegNo) (value : Nat) (s : State) : Sound s (multiplyResult sf rd value s) :=
  sound_finish ((goesOn_ite (goesOn_setMultiplyFlags ..)).setReg ..)

theorem sound_multiplyLongResult (sf : Bool) (rdHi rdLo : RegNo) (value : Int) (s : State) :
    Sound s (multiplyLongResult sf rdHi rdLo value s) :=
  sound_finish (((goesOn_ite (goesOn_setMultiplyFlags ..)).setReg ..).setReg ..)

theorem sound_mrcResult (rd : RegNo) (v : Word) (s : State) : Sound s (mrcResult rd v s) :=
  sound_ite (fun _ => sound_finish (goesOn_cpsr rfl rfl rfl (statusMove_psrWithFlags ..)))
    fun _ => sound_finish (keeps_setReg ..).goesOn

theorem sound_writeCpsr (fields : BitVec 4) (operand : Word) (s : State) : Sound s (writeCpsr fields operand s) := by
  refine sound_ite (fun _ => sound_refuse ..) fun hT => sound_ite (fun _ => sound_refuse ..) fun hmode => sound_finish ?_
  have hT : psrT (cpsrAfterMsr fields operand s) = psrT s.cpsr := 
    Decidable.byContradiction fun hne => hT (bne_iff_ne.2 hne)
  refine goesOn_cpsr rfl rfl rfl (statusMove_cpsrAfterMsr hT fun hb hnone => hmode ?_)
  obtain ⟨hfield, hpriv⟩ : fields.getLsbD 0 = true ∧ s.privileged = true := by simpa [cpsrBytes] using hb
  have hnone' : (Mode.ofBits (psrMode (cpsrAfterMsr fields operand s))).isNone = true := Option.isNone_iff_eq_none.2 hnone
  simpa only [Bool.and_eq_true] using ⟨⟨hpriv, hfield⟩, hnone'⟩

theorem sound_writePsr (spsr : Bool) (fields : BitVec 4) (operand : Word) (s : State) : Sound s (writePsr spsr fields operand s) := by
  refine sound_ite (fun _ => ?_) fun _ => sound_writeCpsr ..
  cases hp : s.currentSpsr with
  | none => rw [writeSpsr_none hp]; exact sound_refuse ..
  | some p =>
    rw [writeSpsr_some hp]
    exact sound_finish (Keeps.goesOn ⟨by simp, by simp, by simp, by simp⟩)

/-- The body of MRS. -/
def mrsBody (spsr : Bool) (rd : RegNo) (s : State) : Result :=
  match readPsr spsr s with
  | none => refuse .noSpsr
  | some p => finish (s.setReg rd p)

theorem exec_mrs (c : Cond) (spsr : Bool) (sbo : BitVec 4) (rd : RegNo) (sbzHi sbzLo : BitVec 4) (s : State) :
    exec (.mrs c spsr sbo rd sbzHi sbzLo) s = guarded (.mrs c spsr sbo rd sbzHi sbzLo) s fun s => mrsBody spsr rd s := rfl

theorem sound_mrsBody (spsr : Bool) (rd : RegNo) (s : State) : Sound s (mrsBody spsr rd s) := by
  unfold mrsBody
  split
  · exact sound_refuse ..
  · exact sound_finish (keeps_setReg ..).goesOn

/-! ### Transfers -/

theorem sound_loadThen {w : Width} {priv : Bool} {tr : Transfer} {rn : RegNo} {s : State} {k : Word → State → Result}
    (h : ∀ v u, Sound u (k v u)) : Sound s (loadThen w priv tr rn s k) := by
  refine ⟨fun t ht => ?_⟩
  rcases loadThen_next.1 ht with ⟨-, rfl⟩ | ⟨v, s1, hread, hk⟩
  · exact (sound_takeException (by decide) (keeps_abortBase ..)).next _ rfl
  · exact ((h v _).after ((keeps_memRead hread).trans (keeps_writeBack ..))).next t hk

theorem sound_loadWord (priv : Bool) (tr : Transfer) (rn rd : RegNo) (s : State) : Sound s (loadWord priv tr rn rd s) :=
  sound_loadThen fun v u => sound_ite (fun _ => sound_ite (fun _ => sound_refuse ..) fun _ => sound_next (goesOn_loadPc v u))
    fun _ => sound_finish (keeps_setReg ..).goesOn

theorem sound_loadByte (priv : Bool) (tr : Transfer) (rn rd : RegNo) (s : State) : Sound s (loadByte priv tr rn rd s) :=
  sound_loadThen fun _ _ => sound_finish (keeps_setReg ..).goesOn

theorem sound_loadExtended (w : Width) (extend : Word → Word) (tr : Transfer) (rn rd : RegNo) (s : State) :
    Sound s (loadExtended w extend tr rn rd s) := sound_loadThen fun _ _ => sound_finish (keeps_setReg ..).goesOn

theorem sound_afterStores {s s1 : State} {k : Result} (h : Sound s k) : Sound s (afterStores s s1 k) :=
  sound_ite (fun _ => sound_refuse ..) fun _ => h

theorem sound_storeThen (w : Width) (priv : Bool) (tr : Transfer) (rn : RegNo) (v : Word) (s : State) :
    Sound s (storeThen w priv tr rn v s) := by
  refine ⟨fun t ht => ?_⟩
  rcases storeThen_next.1 ht with ⟨-, rfl⟩ | ⟨s1, hwrite, -, hfinish⟩
  · exact (sound_takeException (by decide) (keeps_abortBase ..)).next _ rfl
  · exact (sound_finish ((keeps_memWrite hwrite).trans (keeps_writeBack ..)).goesOn).next t hfinish

theorem sound_swap (w : Width) (rn rd rm : RegNo) (result : Word → Word) (s : State) : Sound s (swap w rn rd rm result s) := by
  unfold swap
  split
  case h_1 => exact sound_refuse ..
  case h_2 => exact sound_takeException (by decide) (.refl s)
  case h_3 v s1 hread =>
    split
    case h_1 => exact sound_refuse ..
    case h_2 => exact sound_takeException (by decide) (keeps_memRead hread)
    case h_3 s2 hwrite =>
      exact sound_afterStores (sound_finish (((keeps_memRead hread).trans (keeps_memWrite hwrite)).trans (keeps_setReg ..)).goesOn)

/-! ### Block and coprocessor transfers -/

theorem sound_abortMultiple {s u : State} (w : Bool) (rn : RegNo) (base : Word) (before : State) (h : Keeps s u) :
    Sound s (.next (abortMultiple w rn base before u)) := sound_takeException (by decide) (h.trans (keeps_setPhys ..))

theorem sound_loadMultiple {p u w : Bool} {rn : RegNo} {regs : List RegNo} {withPc : Bool} {s : State}
    {last : Option Word → Word → State → Result} (h : ∀ v base x, Sound x (last v base x)) :
    Sound s (loadMultiple p u w rn regs withPc s last) := by
  unfold loadMultiple
  dsimp only
  split
  case h_1 s1 hblock => exact sound_abortMultiple _ _ _ _ (keeps_loadBlock (.inr hblock))
  case h_2 a s1 hblock =>
    have hs1 := keeps_loadBlock (.inl ⟨a, hblock⟩)
    refine sound_ite (fun _ => ?_) fun _ => (h ..).after hs1
    split
    case h_1 v s2 hread => exact (h ..).after (hs1.trans (keeps_memRead hread))
    case h_2 => exact sound_abortMultiple _ _ _ _ hs1

theorem sound_ldmEnd (w : Bool) (rn : RegNo) (pcWord : Option Word) (base : Word) (s : State) : Sound s (ldmEnd w rn pcWord base s) := by
  have hbase := keeps_writeBackMultiple w rn base s
  cases pcWord with
  | none => exact sound_finish hbase.goesOn
  | some v => exact sound_next ((goesOn_loadPc v _).after hbase)

theorem sound_ldmReturnEnd (w : Bool) (rn : RegNo) (pcWord : Option Word) (base : Word) (s : State) :
    Sound s (ldmReturnEnd w rn pcWord base s) := (sound_returnTo ..).after (keeps_writeBackMultiple w rn base s)

/-- The body of LDM (2). -/
def ldmUserBody (p u w : Bool) (rn : RegNo) (regs : List RegNo) (s : State) : Result :=
  if s.mode = some .user ∨ s.mode = some .system then refuse .userBankForm
  else
    match loadBlock (some .user) regs (startAddress p u (s.reg rn) regs.length) s with
    | .aborted s1 => .next (abortMultiple w rn (newBase u (s.reg rn) regs.length) s s1)
    | .complete _ s1 => finish { s1 with userBankWindow := true }

theorem exec_ldmUser (c : Cond) (p u w : Bool) (rn : RegNo) (list : BitVec 15) (s : State) :
    exec (.ldmUser c p u w rn list) s =
      guarded (.ldmUser c p u w rn list) s fun s => ldmUserBody p u w rn (listedRegs list) s := rfl

theorem sound_ldmUserBody (p u w : Bool) (rn : RegNo) (regs : List RegNo) (s : State) : Sound s (ldmUserBody p u w rn regs s) := by
  refine sound_ite (fun _ => sound_refuse ..) fun _ => ?_
  split
  case h_1 s1 hblock => exact sound_abortMultiple _ _ _ _ (keeps_loadBlock (.inr hblock))
  case h_2 a s1 hblock => exact sound_finish ((keeps_loadBlock (.inl ⟨a, hblock⟩)).trans (keeps_window ..)).goesOn

/-- The body of LDM (3). -/
def ldmReturnBody (p u w : Bool) (rn : RegNo) (regs : List RegNo) (s : State) : Result :=
  match s.currentSpsr with
  | none => refuse .noSpsr
  | some _ => loadMultiple p u w rn regs true s (ldmReturnEnd w rn)

theorem exec_ldmReturn (c : Cond) (p u w : Bool) (rn : RegNo) (list : BitVec 15) (s : State) :
    exec (.ldmReturn c p u w rn list) s =
      guarded (.ldmReturn c p u w rn list) s fun s => ldmReturnBody p u w rn (listedRegs list) s := rfl

theorem sound_ldmReturnBody (p u w : Bool) (rn : RegNo) (regs : List RegNo) (s : State) :
    Sound s (ldmReturnBody p u w rn regs s) := by
  unfold ldmReturnBody
  split
  · exact sound_refuse ..
  · exact sound_loadMultiple fun _ _ _ => sound_ldmReturnEnd ..

theorem sound_storeMultiple (m : Option Mode) (p u w : Bool) (rn : RegNo) (list : BitVec 16) (s : State) :
    Sound s (storeMultiple m p u w rn list s) := by
  unfold storeMultiple
  dsimp only
  have hstores := keeps_storeBlock (Prod.eta
    (storeBlock ((listedRegs list).map (s.storedReg m)) (startAddress p u (s.reg rn) (listedRegs list).length) false s)).symm
  exact sound_afterStores (sound_ite (fun _ => sound_abortMultiple _ _ _ _ hstores)
    fun _ => sound_finish (hstores.trans (keeps_writeBackMultiple ..)).goesOn)

theorem sound_ldc (cp : BitVec 4) (w : Word) (count : Nat) (tr : Transfer) (rn : RegNo) (s : State) : Sound s (ldc cp w count tr rn s) := by
  unfold ldc
  split
  case h_1 s1 htaken => exact sound_takeException (by decide) ((keeps_takeWords htaken).trans (keeps_abortBase ..))
  case h_2 s1 htaken => exact sound_finish ((keeps_takeWords htaken).trans (keeps_writeBack ..)).goesOn

theorem sound_stc (cp : BitVec 4) (w : Word) (words : List Word) (tr : Transfer) (rn : RegNo) (s : State) :
    Sound s (stc cp w words tr rn s) := by
  unfold stc
  split
  case h_1 s1 hgiven =>
    exact sound_afterStores (sound_takeException (by decide) ((keeps_giveWords hgiven).trans (keeps_abortBase ..)))
  case h_2 s1 hgiven => exact sound_afterStores (sound_finish ((keeps_giveWords hgiven).trans (keeps_writeBack ..)).goesOn)

end Sys2Proof.Machine

/-! ## What a step keeps (R34, R35, R43, R420, R440) -/

namespace Sys2Proof.Machine

/-! ### Every instruction -/

/-- Every instruction goes on or enters an exception, within the bounds. -/
theorem exec_sound (i : Instr) (s : State) : Sound s (exec i s) := by
  cases i with
  | andImm | andShiftImm | andShiftReg | eorImm | eorShiftImm | eorShiftReg | subImm | subShiftImm | subShiftReg
  | rsbImm | rsbShiftImm | rsbShiftReg | addImm | addShiftImm | addShiftReg | adcImm | adcShiftImm | adcShiftReg
  | sbcImm | sbcShiftImm | sbcShiftReg | rscImm | rscShiftImm | rscShiftReg | orrImm | orrShiftImm | orrShiftReg
  | movImm | movShiftImm | movShiftReg | bicImm | bicShiftImm | bicShiftReg | mvnImm | mvnShiftImm | mvnShiftReg =>
    exact sound_guarded fun _ => sound_dataResult ..
  | tstImm | tstShiftImm | tstShiftReg | teqImm | teqShiftImm | teqShiftReg
  | cmpImm | cmpShiftImm | cmpShiftReg | cmnImm | cmnShiftImm | cmnShiftReg => exact sound_guarded fun _ => sound_dataTest ..
  | mul | mla => exact sound_guarded fun _ => sound_multiplyResult ..
  | umull | umlal | smull | smlal => exact sound_guarded fun _ => sound_multiplyLongResult ..
  | clz => exact sound_guarded fun _ => sound_finish (keeps_setReg ..).goesOn
  | swp | swpb => exact sound_guarded fun _ => sound_swap ..
  | mrs => rw [exec_mrs]; exact sound_guarded fun _ => sound_mrsBody ..
  | msrReg | msrImm => exact sound_guarded fun _ => sound_writePsr ..
  | bx => exact sound_guarded fun _ => sound_branchExchange ..
  | blxReg => exact sound_guarded fun _ => (sound_branchExchange ..).after (keeps_setReg ..)
  | blxImm => exact sound_guarded fun _ => sound_next ((goesOn_setT ..).after (keeps_setReg ..))
  | b => exact sound_guarded fun _ => sound_next (keeps_pc ..).goesOn
  | bl => exact sound_guarded fun _ => sound_next ((keeps_setReg ..).trans (keeps_pc ..)).goesOn
  | swi | bkpt => exact sound_guarded fun u => sound_takeException (by decide) (.refl u)
  | ldrImm | ldrImmPost | ldrtImm | ldrReg | ldrRegPost | ldrtReg => exact sound_guarded fun _ => sound_loadWord ..
  | ldrbImm | ldrbImmPost | ldrbtImm | ldrbReg | ldrbRegPost | ldrbtReg => exact sound_guarded fun _ => sound_loadByte ..
  | ldrhImm | ldrhReg | ldrsbImm | ldrsbReg | ldrshImm | ldrshReg => exact sound_guarded fun _ => sound_loadExtended ..
  | strImm | strImmPost | strtImm | strReg | strRegPost | strtReg
  | strbImm | strbImmPost | strbtImm | strbReg | strbRegPost | strbtReg
  | strhImm | strhReg => exact sound_guarded fun _ => sound_storeThen ..
  | ldm c p u w rn list => exact sound_guarded fun _ => sound_loadMultiple (last := ldmEnd w rn) fun _ _ _ => sound_ldmEnd ..
  | ldmUser => rw [exec_ldmUser]; exact sound_guarded fun _ => sound_ldmUserBody ..
  | ldmReturn => rw [exec_ldmReturn]; exact sound_guarded fun _ => sound_ldmReturnBody ..
  | stm => exact sound_guarded fun _ => sound_storeMultiple ..
  | stmUser => exact sound_guarded fun _ => sound_ite (fun _ => sound_refuse ..) fun _ => sound_storeMultiple ..
  | ldcOffset | ldcPostUp | ldcPostDown => exact sound_offered fun _ _ _ => sound_ldc ..
  | stcOffset | stcPostUp | stcPostDown => exact sound_offered fun _ _ _ => sound_stc ..
  | cdp | mcr => exact sound_offered fun _ _ _ => sound_finish (keeps_sent ..).goesOn
  | mrc => exact sound_offered fun _ _ _ => (sound_mrcResult ..).after (keeps_sent ..)

theorem sound_execUndefined (w : Word) (s : State) : Sound s (execUndefined w s) := by
  have htrap : Sound s (.next (takeException .undefined s)) := sound_takeException (by decide) (.refl s)
  unfold execUndefined
  split
  · exact sound_ite (fun _ => htrap) fun _ => sound_skip s
  · exact sound_ite (fun _ => htrap) fun _ => sound_skip s

/-! ### A step -/

/-- A step that is no reset: an instruction goes on, its pc settled, or an exception is entered. -/
def StepShape (s t : State) : Prop := (∃ u, GoesOn s u ∧ t = u.aligned) ∨ Enters s t

theorem stepShape_execWord {w : Word} {s u t : State} (h : Keeps s u) (ht : execWord w u = .next t) : StepShape s t := by
  have hsound : Sound u (match decode w with | .ok i => exec i u | .error _ => execUndefined w u) := by
    split
    · exact exec_sound ..
    · exact sound_execUndefined ..
  obtain ⟨x, hx, rfl⟩ := settle_next.1 ht
  rcases (hsound.after h).next x hx with hgo | ⟨e, v, he, hv, rfl⟩
  · exact .inl ⟨x, hgo, rfl⟩
  · exact .inr ⟨e, v, he, hv, State.aligned_eq (.inr (State.vector_low_bits v e))⟩

theorem stepShape_fetchAndExecute {s t : State} (ht : fetchAndExecute s = .next t) : StepShape s t := by
  cases hf : fetch s with
  | none =>
    rw [fetchAndExecute_aborted hf] at ht
    cases ht
    exact .inr ⟨.prefetchAbort, s, by decide, .refl s, rfl⟩
  | some w =>
    by_cases hal : s.pc.extractLsb' 0 2 = 0b00#2
    · exact stepShape_execWord (.refl s) ((fetchAndExecute_aligned hf hal).symm.trans ht)
    · exact stepShape_execWord (keeps_draws s _) ((fetchAndExecute_misaligned hf hal).symm.trans ht)

/-- A step that answers a next state is a reset or has the shape. -/
theorem step_shape {s t : State} (ht : step s = .next t) : t = takeReset s.sampled ∨ StepShape s.sampled t := by
  rw [step, cycle, interrupted] at ht
  split at ht
  · cases ht; exact .inl rfl
  split at ht
  · cases ht
  split at ht
  · cases ht; exact .inr (.inr ⟨.fiq, _, by decide, .refl _, rfl⟩)
  split at ht
  · cases ht; exact .inr (.inr ⟨.irq, _, by decide, .refl _, rfl⟩)
  · exact .inr (stepShape_fetchAndExecute ht)

/-! ### The entries -/

theorem State.vector_congr {s u : State} (h : u.cfg = s.cfg) (e : ExceptionKind) : u.vector e = s.vector e := by
  rw [State.vector, h, State.vector]

/-- The state an exception enters meets the invariant when memory did. -/
theorem inv_enterException (e : ExceptionKind) (link saved : Word) {s : State} (h : s.mem.wf) : (enterException e link saved s).Inv :=
  ⟨by simp, by simpa using h, fun _ => State.vector_low_bits s e, fun _ => by simp⟩

end Sys2Proof.Machine

namespace Sys2Proof.Proofs

open Sys2Proof.Machine Sys2Proof.Claims

/-- Settles O10: an exception entry meets the invariant; an instruction that goes on keeps memory, the mode and T, and its pc is settled. -/
theorem stepKeepsTheInvariant : Obligations.StepKeepsTheInvariant := by
  intro s t ⟨hmode, hwf, _, hthumb⟩ ht
  rcases step_shape ht with rfl | ⟨u, hu, rfl⟩ | ⟨e, u, _, hu, rfl⟩
  · exact inv_enterException _ _ _ hwf
  · exact ⟨hu.status.mode hmode, hu.wf hwf, State.aligned_low, fun hno =>
      have hcfg : s.cfg.hasThumb = false := by rw [← hno]; exact congrArg Config.hasThumb hu.cfg.symm
      hu.status.thumb hcfg (hthumb hcfg)⟩
  · exact inv_enterException _ _ _ (hu.wf hwf)

/-- Settles O11: the sample is taken before all else, and nothing after it writes a parameter or the inputs. -/
theorem stepKeepsParametersTakesOneSample : Obligations.StepKeepsParametersTakesOneSample := by
  intro s t ht
  rcases step_shape ht with rfl | ⟨u, hu, rfl⟩ | ⟨e, u, _, hu, rfl⟩
  · exact ⟨enterException_cfg .., enterException_lines ..⟩
  · exact ⟨hu.cfg, hu.lines⟩
  · exact ⟨(takeException_cfg e u).trans hu.cfg, (takeException_lines e u).trans hu.lines⟩

/-- Settles O12: an instruction that goes on keeps the fields of `UserFields`; all else is an exception entry. -/
theorem userModeLeavesOnlyByException : Obligations.UserModeLeavesOnlyByException := by
  intro s t huser ht
  rcases step_shape ht with rfl | ⟨u, hu, rfl⟩ | ⟨e, u, _, hu, rfl⟩
  · exact .inr ⟨.reset, enterException_mode .., rfl, psrI_onEntry .., psrT_onEntry .., fun h => absurd rfl h⟩
  · obtain ⟨hmode, hirq, hfiq, hmiddle⟩ := hu.status.user huser
    exact .inl ⟨(congrArg Mode.ofBits hmode).trans huser, hirq, hfiq, hmiddle⟩
  · refine .inr ⟨e, enterException_mode .., State.vector_congr hu.cfg e, psrI_onEntry .., psrT_onEntry .., fun _ => ?_⟩
    exact (enterException_currentSpsr e _ _ u).trans (congrArg some hu.cpsr)

end Sys2Proof.Proofs

/-! ## The top of the address space (R28)

After a sequential instruction execution goes on at the next word. At the last word of the address space there is none: the instruction ends
in `finish`, which refuses there, unless a stop or the Data Abort exception comes before. -/

namespace Sys2Proof.Machine

open Sys2Proof.Claims

/-! ### What an exception entry reads -/

/-- The parameters, the pc, the status words and the inputs are the same. -/
structure SameSystem (s t : State) : Prop where
  cfg : t.cfg = s.cfg
  pc : t.pc = s.pc
  cpsr : t.cpsr = s.cpsr
  spsr : t.spsr = s.spsr
  lines : t.lines = s.lines

theorem SameSystem.refl (s : State) : SameSystem s s := ⟨rfl, rfl, rfl, rfl, rfl⟩

theorem SameSystem.trans {s t u : State} (h : SameSystem s t) (h' : SameSystem t u) : SameSystem s u :=
  ⟨h'.cfg.trans h.cfg, h'.pc.trans h.pc, h'.cpsr.trans h.cpsr, h'.spsr.trans h.spsr, h'.lines.trans h.lines⟩

theorem SameCore.sameSystem {s t : State} (h : SameCore s t) : SameSystem s t := ⟨h.cfg, h.pc, h.cpsr, h.spsr, h.lines⟩

theorem OnlyRegisters.sameSystem {s t : State} (h : OnlyRegisters s t) : SameSystem s t := ⟨h.cfg, h.pc, h.cpsr, h.spsr, h.lines⟩

theorem sameSystem_setReg (s : State) {r : RegNo} (h : r ≠ 15) (v : Word) : SameSystem s (s.setReg r v) :=
  (onlyRegisters_setPhys s (s.phys_ne_pc h) v).sameSystem

theorem sameSystem_writeBack {tr : Transfer} {rn : RegNo} (h : tr.writeback = true → rn ≠ 15) (s : State) :
    SameSystem s (writeBack tr rn s) := by
  unfold writeBack
  split
  · exact sameSystem_setReg s (h ‹_›) _
  · exact .refl s

theorem sameSystem_abortBase {tr : Transfer} {rn : RegNo} (h : tr.writeback = true → rn ≠ 15) (s : State) :
    SameSystem s (abortBase tr rn s) := by
  unfold abortBase
  split
  · exact .refl s
  · exact sameSystem_writeBack h s

theorem sameSystem_writeBackMultiple (w : Bool) {rn : RegNo} (h : rn ≠ 15) (base : Word) (s : State) :
    SameSystem s (writeBackMultiple w rn base s) := by
  unfold writeBackMultiple
  split
  · exact sameSystem_setReg s h base
  · exact .refl s

theorem sameSystem_memRead {w : Width} {addr v : Word} {priv : Bool} {s s1 : State} (h : memRead w addr priv s = .done (v, s1)) :
    SameSystem s s1 := by rw [memRead_state h]; exact ⟨rfl, rfl, rfl, rfl, rfl⟩

theorem sameSystem_memWrite {w : Width} {addr v : Word} {priv : Bool} {s s1 : State} (h : memWrite w addr v priv s = .done s1) :
    SameSystem s s1 := by rw [memWrite_state h]; exact ⟨rfl, rfl, rfl, rfl, rfl⟩

/-- The loads of a block below r15, complete or not. -/
theorem onlyRegisters_loadBlock {m : Option Mode} {regs : List RegNo} {a : Word} {s s1 : State} (hpc : 15 ∉ regs)
    (h : (∃ a', loadBlock m regs a s = .complete a' s1) ∨ loadBlock m regs a s = .aborted s1) : OnlyRegisters s s1 := by
  induction regs generalizing a s with
  | nil =>
    rcases h with ⟨a', h⟩ | h
    · cases h; exact .refl _
    · cases h
  | cons r regs ih =>
    obtain ⟨hr, hregs⟩ := List.ne_and_not_mem_of_not_mem_cons hpc
    rw [loadBlock] at h
    split at h
    case h_1 v s2 hv =>
      rw [memRead_state hv] at h
      exact ((onlyRegisters_draws s s2.draws).trans (onlyRegisters_setPhys _ (bank_ne_pc m (Ne.symm hr)) v)).trans (ih hregs h)
    case h_2 =>
      rcases h with ⟨a', h⟩ | h
      · cases h
      · cases h; exact (drawRegs_keeps hpc).1

/-! ### Ends without a successor -/

/-- A result that is refused, or the Data Abort exception. -/
def Stops (s : State) (r : Result) : Prop := (∃ why, r = refuse why) ∨ ∃ t, r = .next t ∧ DataAbortEntered s t

theorem stops_refuse (s : State) (why : Unpredictable) : Stops s (refuse why) := .inl ⟨why, rfl⟩

theorem stops_dataAbort {s u : State} (h : SameSystem s u) : Stops s (.next (takeException .dataAbort u)) :=
  .inr ⟨_, rfl, dataAbort_entered h.cfg h.cpsr h.pc h.spsr h.lines⟩

theorem Stops.after {s u : State} {r : Result} (h : SameSystem s u) (hr : Stops u r) : Stops s r := by
  rcases hr with hr | ⟨t, ht, hentered⟩
  · exact .inl hr
  · unfold DataAbortEntered at hentered
    rw [h.cfg, h.cpsr, h.pc, h.spsr, h.lines] at hentered
    exact .inr ⟨t, ht, hentered⟩

theorem stops_ite {s : State} {r r' : Result} {c : Prop} [Decidable c] (h : c → Stops s r) (h' : ¬ c → Stops s r') :
    Stops s (if c then r else r') := by
  split
  · exact h ‹_›
  · exact h' ‹_›

theorem stops_afterStores {s s0 s1 : State} {k : Result} (h : Stops s k) : Stops s (afterStores s0 s1 k) :=
  stops_ite (fun _ => stops_refuse ..) fun _ => h

theorem stops_loadThen {s : State} {tr : Transfer} {rn : RegNo} (hrn : tr.writeback = true → rn ≠ 15) {w : Width} {priv : Bool} {k : Word → State → Result}
    (hk : ∀ v u, SameSystem s u → Stops s (k v u)) : Stops s (loadThen w priv tr rn s k) := by
  unfold loadThen
  split
  case h_1 => exact stops_refuse ..
  case h_2 => exact stops_dataAbort (sameSystem_abortBase hrn s)
  case h_3 v s1 hread => exact hk v _ ((sameSystem_memRead hread).trans (sameSystem_writeBack hrn s1))

theorem sameSystem_window (s : State) (b : Bool) : SameSystem s { s with userBankWindow := b } := (sameCore_window s b).sameSystem

/-- An instruction that runs ends as its body does. -/
theorem stops_guarded {i : Instr} {s : State} {body : State → Result} (h : Ready i s) (htop : 0xFFFFFFFC ≤ s.pc.toNat)
    (hbody : ∀ u, 0xFFFFFFFC ≤ u.pc.toNat → Stops u (body u)) : Stops s (guarded i s body) := by
  rw [guarded_ready h]
  exact (hbody { s with userBankWindow := false } htop).after (sameSystem_window s false)

/-- A coprocessor instruction that is accepted ends as its body does. -/
theorem stops_offered {i : Instr} {cp : BitVec 4} {v : Word} {vs : List Word} {s s1 : State} {body : Word → List Word → State → Result}
    (h : Ready i s) (htop : 0xFFFFFFFC ≤ s.pc.toNat) (hpresent : cp ∈ s.cfg.coprocs)
    (ha : cpAnswer cp (encode i) s = (.accepts v vs, s1))
    (hbody : ∀ v vs u, 0xFFFFFFFC ≤ u.pc.toNat → Stops u (body v vs u)) : Stops s (offered i cp s body) := by
  obtain ⟨t, hruns, hcore, -⟩ := offered_runs h hpresent ha
  rw [hruns]
  exact (hbody v vs t (by rw [hcore.pc]; exact htop)).after hcore.sameSystem

section Top

variable {s : State} (htop : 0xFFFFFFFC ≤ s.pc.toNat)

include htop

theorem finish_top {u : State} (hpc : u.pc = s.pc) : finish u = refuse .pastTop := if_pos (by rwa [hpc])

theorem stops_finish {u : State} (hpc : u.pc = s.pc) : Stops s (finish u) := .inl ⟨_, finish_top htop hpc⟩

theorem dataResult_top {rd : RegNo} (hrd : rd ≠ 15) (sf : Bool) (o : AluOut) : dataResult sf rd o s = refuse .pastTop := by
  refine (if_neg hrd).trans (finish_top htop ((State.setReg_pc _ hrd _).trans ?_))
  cases sf <;> rfl

theorem stops_multiplyResult {rd : RegNo} (hrd : rd ≠ 15) (sf : Bool) (value : Nat) : Stops s (multiplyResult sf rd value s) := by
  refine stops_finish htop ((State.setReg_pc _ hrd _).trans ?_)
  cases sf <;> rfl

theorem stops_multiplyLongResult {rdHi rdLo : RegNo} (hhi : rdHi ≠ 15) (hlo : rdLo ≠ 15) (sf : Bool) (value : Int) :
    Stops s (multiplyLongResult sf rdHi rdLo value s) := by
  refine stops_finish htop ((State.setReg_pc _ hhi _).trans ((State.setReg_pc _ hlo _).trans ?_))
  cases sf <;> rfl

theorem stops_swap (w : Width) (rn : RegNo) {rd : RegNo} (rm : RegNo) (result : Word → Word) (hrd : rd ≠ 15) :
    Stops s (swap w rn rd rm result s) := by
  unfold swap
  split
  case h_1 => exact stops_refuse ..
  case h_2 => exact stops_dataAbort (.refl s)
  case h_3 v s1 hread =>
    have hs1 := sameSystem_memRead hread
    split
    case h_1 => exact stops_refuse ..
    case h_2 => exact stops_dataAbort hs1
    case h_3 s2 hwrite =>
      exact stops_afterStores (stops_finish htop ((State.setReg_pc _ hrd _).trans (hs1.trans (sameSystem_memWrite hwrite)).pc))

theorem stops_mrsBody (spsr : Bool) {rd : RegNo} (hrd : rd ≠ 15) : Stops s (mrsBody spsr rd s) := by
  unfold mrsBody
  split
  · exact stops_refuse ..
  · exact stops_finish htop (State.setReg_pc _ hrd _)

theorem stops_writePsr (spsr : Bool) (fields : BitVec 4) (operand : Word) : Stops s (writePsr spsr fields operand s) := by
  refine stops_ite (fun _ => ?spsr) fun _ => ?cpsr
  case spsr =>
    cases hp : s.currentSpsr with
    | none => rw [writeSpsr_none hp]; exact stops_refuse ..
    | some p => rw [writeSpsr_some hp]; exact stops_finish htop (State.setSpsr_pc ..)
  case cpsr =>
    exact stops_ite (fun _ => stops_refuse ..) fun _ => stops_ite (fun _ => stops_refuse ..) fun _ => stops_finish htop rfl

theorem stops_mrcResult (rd : RegNo) (v : Word) : Stops s (mrcResult rd v s) :=
  stops_ite (fun _ => stops_finish htop rfl) fun hrd => stops_finish htop (State.setReg_pc _ hrd _)

/-- The end of a load below r15. -/
theorem stops_finish_setReg {rd : RegNo} (hrd : rd ≠ 15) (v : Word) {u : State} (h : SameSystem s u) :
    Stops s (finish (u.setReg rd v)) := stops_finish htop ((State.setReg_pc u hrd v).trans h.pc)

/-! ### Transfers -/

section Base

variable {tr : Transfer} {rn : RegNo} (hrn : tr.writeback = true → rn ≠ 15)

include hrn

theorem stops_storeThen (w : Width) (priv : Bool) (v : Word) : Stops s (storeThen w priv tr rn v s) := by
  unfold storeThen
  split
  case h_1 => exact stops_refuse ..
  case h_2 => exact stops_dataAbort (sameSystem_abortBase hrn s)
  case h_3 s1 hwrite =>
    exact stops_afterStores (stops_finish htop ((sameSystem_memWrite hwrite).trans (sameSystem_writeBack hrn s1)).pc)

theorem stops_ldc (cp : BitVec 4) (w : Word) (count : Nat) : Stops s (ldc cp w count tr rn s) := by
  have hcore : ∀ {f s1}, takeWords cp w count 0 tr.address s = (f, s1) → SameSystem s s1 := fun h => by
    rw [takeWords_state h]; exact ⟨rfl, rfl, rfl, rfl, rfl⟩
  unfold ldc
  split
  case h_1 s1 htaken => exact stops_dataAbort ((hcore htaken).trans (sameSystem_abortBase hrn s1))
  case h_2 s1 htaken => exact stops_finish htop ((hcore htaken).trans (sameSystem_writeBack hrn s1)).pc

theorem stops_stc (cp : BitVec 4) (w : Word) (words : List Word) : Stops s (stc cp w words tr rn s) := by
  have hcore : ∀ {f s1}, giveWords cp w words 0 tr.address s = (f, s1) → SameSystem s s1 := fun h => by
    rw [(giveWords_state h).1]; exact ⟨rfl, rfl, rfl, rfl, rfl⟩
  unfold stc
  split
  case h_1 s1 hgiven =>
    exact stops_afterStores (stops_dataAbort ((hcore hgiven).trans (sameSystem_abortBase hrn s1)))
  case h_2 s1 hgiven =>
    exact stops_afterStores (stops_finish htop ((hcore hgiven).trans (sameSystem_writeBack hrn s1)).pc)

end Base

section Block

variable {rn : RegNo} (hrn : rn ≠ 15) (p u w : Bool)

include hrn

omit htop in
theorem stops_abortMultiple (base : Word) {x y : State} (h : SameSystem s y) : Stops s (.next (abortMultiple w rn base x y)) :=
  stops_dataAbort (h.trans (onlyRegisters_setPhys y (State.phys_ne_pc x hrn) _).sameSystem)

/-- LDM (1) of a list without r15. -/
theorem stops_loadMultiple {regs : List RegNo} (hregs : 15 ∉ regs) : Stops s (loadMultiple p u w rn regs false s (ldmEnd w rn)) := by
  unfold loadMultiple
  dsimp only
  split
  case h_1 s1 hblock => exact stops_abortMultiple hrn w _ (onlyRegisters_loadBlock hregs (.inr hblock)).sameSystem
  case h_2 a s1 hblock =>
    have hs1 := (onlyRegisters_loadBlock hregs (.inl ⟨a, hblock⟩)).sameSystem
    exact stops_finish htop (hs1.trans (sameSystem_writeBackMultiple w hrn _ s1)).pc

theorem stops_ldmUserBody {regs : List RegNo} (hregs : 15 ∉ regs) : Stops s (ldmUserBody p u w rn regs s) := by
  refine stops_ite (fun _ => stops_refuse ..) fun _ => ?_
  split
  case h_1 s1 hblock => exact stops_abortMultiple hrn w _ (onlyRegisters_loadBlock hregs (.inr hblock)).sameSystem
  case h_2 a s1 hblock => exact stops_finish htop (onlyRegisters_loadBlock hregs (.inl ⟨a, hblock⟩)).pc

theorem stops_storeMultiple (m : Option Mode) (list : BitVec 16) : Stops s (storeMultiple m p u w rn list s) := by
  unfold storeMultiple
  dsimp only
  obtain ⟨hs1, -⟩ := storeBlock_state (Prod.eta
    (storeBlock ((listedRegs list).map (s.storedReg m)) (startAddress p u (s.reg rn) (listedRegs list).length) false s)).symm
  have hstores : SameSystem s
      (storeBlock ((listedRegs list).map (s.storedReg m)) (startAddress p u (s.reg rn) (listedRegs list).length) false s).2 := by
    rw [hs1]; exact ⟨rfl, rfl, rfl, rfl, rfl⟩
  exact stops_afterStores (stops_ite (fun _ => stops_abortMultiple hrn w _ hstores)
    fun _ => stops_finish htop (hstores.trans (sameSystem_writeBackMultiple w hrn _ _)).pc)

end Block

/-! ### The families of word and halfword transfers -/

section Families

variable {tr : Transfer} {rn rd : RegNo} (hrn : tr.writeback = true → rn ≠ 15)

include hrn

theorem stops_single {op : SingleOp} (hrd : op ≠ .ldr ∨ rd ≠ 15) (hbyte : op.width = .byte → rd ≠ 15) (priv : Bool) :
    Stops s (SingleOp.body op priv tr rn rd s) := by
  cases op with
  | ldr =>
    have hrd := hrd.resolve_left (absurd rfl)
    rw [SingleOp.body, loadWord]
    refine stops_loadThen hrn fun v u hu => ?_
    rw [if_neg hrd]
    exact stops_finish_setReg htop hrd _ hu
  | ldrb => exact stops_loadThen hrn fun v u hu => stops_finish_setReg htop (hbyte rfl) v hu
  | str | strb => exact stops_storeThen htop hrn ..

theorem stops_half (op : HalfOp) (hrd : rd ≠ 15) : Stops s (HalfOp.body op tr rn rd s) :=
  stops_ite (fun _ => stops_storeThen htop hrn ..)
    fun _ => stops_loadThen hrn fun _ _ hu => stops_finish_setReg htop hrd _ hu

end Families

end Top

end Sys2Proof.Machine

namespace Sys2Proof.Proofs

open Sys2Proof.Machine Sys2Proof.Claims

theorem dataProcessing_top {op : DpOp} {form : DpForm} {c : Cond} {sf : Bool} {rn rd : RegNo} {s : State}
    (htop : 0xFFFFFFFC ≤ s.pc.toNat) (hrd : op.isTest = true ∨ rd ≠ 15) (h : Ready (op.instr form c sf rn rd) s) :
    exec (op.instr form c sf rn rd) s = refuse .pastTop := by
  rw [exec_dataProcessing h]
  split
  · exact finish_top htop rfl
  · exact dataResult_top (s := { s with userBankWindow := false }) htop (hrd.resolve_left ‹_›) _ _

/-- The sequential instructions outside the coprocessors'. -/
theorem sequential_stops {i : Instr} {s : State} (htop : 0xFFFFFFFC ≤ s.pc.toNat) (hi : Sequential i) (h : Ready i s)
    (hcp : isCoprocessor i = none) : Stops s (exec i s) := by
  have hrestrict := h.2.2.1
  cases hi with
  | data op form c sf rn rd hrd => exact .inl ⟨_, dataProcessing_top htop hrd h⟩
  | mul =>
    obtain ⟨-, hrd, -⟩ := Restrict.mul_eq_none.1 hrestrict
    exact stops_guarded h htop fun u hu => stops_multiplyResult hu hrd ..
  | mla =>
    obtain ⟨hrd, -⟩ := Restrict.mla_eq_none.1 hrestrict
    exact stops_guarded h htop fun u hu => stops_multiplyResult hu hrd ..
  | long op c sf rdHi rdLo rs rm =>
    obtain ⟨hhi, hlo, -⟩ := Restrict.mulLong_eq_none.1 (show Restrict.mulLong rdHi rdLo rs rm = none by cases op <;> exact hrestrict)
    rw [exec_longMultiply h]
    exact (stops_multiplyLongResult (s := { s with userBankWindow := false }) htop hhi hlo ..).after (sameSystem_window s false)
  | clz =>
    obtain ⟨-, -, hrd, -⟩ := Restrict.clz_eq_none.1 hrestrict
    exact stops_guarded h htop fun u hu => stops_finish_setReg hu hrd _ (.refl u)
  | swp | swpb =>
    obtain ⟨-, -, hrd, -⟩ := Restrict.swap_eq_none.1 hrestrict
    exact stops_guarded h htop fun u hu => stops_swap hu _ _ _ _ hrd
  | mrs =>
    obtain ⟨-, -, -, hrd⟩ := Restrict.mrs_eq_none.1 hrestrict
    rw [exec_mrs]
    exact stops_guarded h htop fun u hu => stops_mrsBody hu _ hrd
  | msrReg | msrImm => exact stops_guarded h htop fun u hu => stops_writePsr hu ..
  | single op form off c u rn rd hrd =>
    rw [exec_single h]
    have hrn := fun hw => (single_writeback (s := s) hrestrict hw).1
    exact (stops_single (s := { s with userBankWindow := false }) htop hrn hrd (single_byte_register hrestrict) _).after
      (sameSystem_window s false)
  | half op off c p u w rn rd =>
    obtain ⟨hrd, hrn⟩ := half_registers (s := s) hrestrict
    rw [exec_half h]
    exact (stops_half (s := { s with userBankWindow := false }) htop (fun hw => (hrn hw).1) op hrd).after (sameSystem_window s false)
  | ldm c p u w rn list hlist =>
    obtain ⟨-, hrn, -⟩ := Restrict.ldm_eq_none.1 hrestrict
    refine stops_guarded h htop fun x hx => ?_
    rw [hlist]
    exact stops_loadMultiple hx hrn p u w (r15_not_listed _)
  | ldmUser c p u w rn list =>
    obtain ⟨-, hrn, -⟩ := Restrict.multipleUser_eq_none.1 hrestrict
    rw [exec_ldmUser]
    exact stops_guarded h htop fun x hx => stops_ldmUserBody hx hrn p u w (r15_not_listed list)
  | stm c p u w rn list =>
    obtain ⟨-, hrn, -⟩ := Restrict.stm_eq_none.1 hrestrict
    exact stops_guarded h htop fun x hx => stops_storeMultiple hx hrn p u w ..
  | stmUser c p u w rn list =>
    obtain ⟨-, hrn, -⟩ := Restrict.multipleUser_eq_none.1 hrestrict
    exact stops_guarded h htop fun x hx => stops_ite (fun _ => stops_refuse ..) fun _ => stops_storeMultiple hx hrn p u w ..
  | ldc form | stc form => cases form <;> cases hcp
  | cdp | mcr | mrc => cases hcp

/-- The coprocessor instructions once they are accepted. -/
theorem accepted_stops {i : Instr} {cp : BitVec 4} {v : Word} {vs : List Word} {s s1 : State} (htop : 0xFFFFFFFC ≤ s.pc.toNat)
    (hi : Sequential i) (h : Ready i s) (hcp : isCoprocessor i = some cp) (hpresent : cp ∈ s.cfg.coprocs)
    (ha : cpAnswer cp (encode i) s = (.accepts v vs, s1)) : Stops s (exec i s) := by
  have hoffered := fun {body} => stops_offered (body := body) h htop hpresent ha
  have hrestrict := h.2.2.1
  cases hi with
  | ldc form c n rn crd cp' imm =>
    obtain rfl : cp' = cp := by cases form <;> exact Option.some.inj hcp
    rw [exec_ldc]
    exact hoffered fun _ _ _ hu => stops_ldc hu (ldc_writeback hrestrict) ..
  | stc form c n rn crd cp' imm =>
    obtain rfl : cp' = cp := by cases form <;> exact Option.some.inj hcp
    rw [exec_stc]
    exact hoffered fun _ _ _ hu => stops_stc hu (stc_writeback hrestrict) ..
  | cdp | mcr => cases hcp; exact hoffered fun _ _ _ hu => stops_finish hu rfl
  | mrc => cases hcp; exact hoffered fun _ _ u hu => (stops_mrcResult (s := u.sent _) hu ..).after ⟨rfl, rfl, rfl, rfl, rfl⟩
  | data op form => cases op <;> cases form <;> cases hcp
  | long op => cases op <;> cases hcp
  | single op form off => cases op <;> cases form <;> cases off <;> cases hcp
  | half op off => cases op <;> cases off <;> cases hcp
  | _ => cases hcp

/-- Settles O18. -/
theorem noAdvancePastTheTop : Obligations.NoAdvancePastTheTop :=
  ⟨fun _ _ htop hskipped => (exec_skipped hskipped).trans (finish_top htop rfl),
    fun _ _ _ _ _ _ _ htop hrd h => dataProcessing_top htop hrd h,
    fun _ _ htop hi h hcp => sequential_stops htop hi h hcp,
    fun _ _ _ _ _ _ htop hi h hcp hpresent ha => accepted_stops htop hi h hcp hpresent ha⟩

end Sys2Proof.Proofs
